-- ==== Sys2Proof/Word.lean ====
section
/-! DEFINITION. The words the ports and links carry, and plain total updates of a fixed-size table. -/

namespace Sys2Proof

/-- One character of a master port or node link frame (R192). -/
abbrev Byte := BitVec 8

/-- A two-byte field of a frame, most significant byte first on the line (R191). -/
abbrev Half := BitVec 16

/-- Apply `f` to every row of a table. Written with `Vector.ofFn`, which the kernel evaluates. -/
def mapV {α β : Type} {n : Nat} (f : α → β) (v : Vector α n) : Vector β n :=
  Vector.ofFn fun i => f v[i]

/-- Apply `f` to row `i` of a table and leave every other row. -/
def updV {α : Type} {n : Nat} (v : Vector α n) (i : Fin n) (f : α → α) : Vector α n :=
  v.set i (f v[i])

/-- The rows of a table with their numbers, lowest number first. -/
def rowsV {α : Type} {n : Nat} (v : Vector α n) : List (Fin n × α) :=
  (List.finRange n).map fun i => (i, v[i])

@[simp] theorem mapV_get {α β : Type} {n : Nat} (f : α → β) (v : Vector α n) (i : Nat)
    (h : i < n) : (mapV f v)[i] = f v[i] := by
  simp [mapV]

/-- Reading row `j` of a table after an update of row `i`. -/
theorem updV_get {α : Type} {n : Nat} (v : Vector α n) (i : Fin n) (f : α → α) (j : Nat)
    (h : j < n) : (updV v i f)[j] = if (i : Nat) = j then f v[j] else v[j] := by
  by_cases e : (i : Nat) = j
  · subst e; simp [updV]
  · simp [updV, e]

@[simp] theorem updV_get_self {α : Type} {n : Nat} (v : Vector α n) (i : Fin n) (f : α → α) :
    (updV v i f)[(i : Nat)] = f v[(i : Nat)] := by
  simp [updV_get]

theorem updV_get_ne {α : Type} {n : Nat} (v : Vector α n) (i : Fin n) (f : α → α) {j : Nat}
    (h : j < n) (e : j ≠ i) : (updV v i f)[j] = v[j] := by
  simp [updV_get, Ne.symm e]

end Sys2Proof
end

