-- ==== Sys2Proof/Syntax.lean ====
section
/-! DEFINITION. The commands of the block: one constructor of `Instr` per row of spec/opcode_table.json,
with the operands that the rule of the row names. -/

namespace Sys2Proof

/-- The three master ports (R168). -/
inductive Port where
  | desk | power | service
  deriving DecidableEq, Repr

/-- The two section nodes, front coded 0 and rear coded 1 (R116, R150). -/
inductive Node where
  | front | rear
  deriving DecidableEq, Repr

/-- The four priority classes of the demand table, highest first (R98). -/
inductive HeatClass where
  | screen | cab | door | saloon
  deriving DecidableEq, Repr

/-- Zones CAB, FRONT-1, FRONT-2, JOINT, REAR-1, REAR-2, numbered 0 to 5 (R3). -/
abbrev ZoneNo := Fin 6

/-- Doors 1 to 4 of the manual; door `n` is row `n - 1` (R71). -/
abbrev DoorNo := Fin 4

/-- Slots 0 to 23 of the element table (R116). -/
abbrev SlotNo := Fin 24

/-- Inputs DR1 to DR4, REL and LINE, indexed 0 to 5 (R193). -/
abbrev InputNo := Fin 6

/-- Slots 0 to 15 of the override table (R152). -/
abbrev EntryNo := Fin 16

/-- Order numbers 0 to 7 (R136). -/
abbrev OrderNo := Fin 8

/-- The ten values of the Sample Table (chapter 1.4, before R8). -/
inductive ValueId where
  | air (z : ZoneNo)
  | outside (n : Node)
  | glass
  | humidity
  deriving DecidableEq, Repr

/-- Raw level at a pin (R68). -/
inductive PinLevel where
  | high | low
  deriving DecidableEq, Repr

/-- A frame of a node as it is received: each character with the ms that passed since the character before
it (R137). -/
abbrev LinkFrame := List (Byte × Nat)

/-- The commands: requests of the masters as good frames on a port (`tag` and `body` are the
frame's), characters and node frames as they arrive, level changes at the pins, and the expiries
of the block's own timers. -/
inductive Instr where
  | deviceReset
  | inputRawChange (i : InputNo) (level : PinLevel)
  | doorInputFilterExpiry (i : Fin 5)
  | lineFilterExpiry
  | masterIntercharTimeout (p : Port)
  | masterFrameError (p : Port)
  | unknownRequest (p : Port) (kind : Byte) (tag : Byte) (body : List Byte)
  | readObject (p : Port) (tag : Byte) (body : List Byte)
  | readNotices (p : Port) (tag : Byte) (body : List Byte)
  | setNoticeMask (p : Port) (tag : Byte) (body : List Byte)
  | placeOverride (p : Port) (tag : Byte) (body : List Byte)
  | cancelOverride (p : Port) (tag : Byte) (body : List Byte)
  | shiftChange (p : Port) (tag : Byte) (body : List Byte)
  | setEnvelope (p : Port) (tag : Byte) (body : List Byte)
  | offerSurplus (p : Port) (tag : Byte) (body : List Byte)
  | endSurplus (p : Port) (tag : Byte) (body : List Byte)
  | setConfig (p : Port) (tag : Byte) (body : List Byte)
  | storeConfig (p : Port) (tag : Byte) (body : List Byte)
  /-- The non-volatile memory ends its write; `readBackMatches` is what its read-back showed. -/
  | storeCompletion (readBackMatches : Bool)
  | restoreDefaults (p : Port) (tag : Byte) (body : List Byte)
  | counterSetup (p : Port) (tag : Byte) (body : List Byte)
  /-- COUNTER-CONTROL with action 0; `rest` is the body after the action byte, here and in the
  four actions that follow. -/
  | preload (p : Port) (tag : Byte) (rest : List Byte)
  | clear (p : Port) (tag : Byte) (rest : List Byte)
  | clearFlags (p : Port) (tag : Byte) (rest : List Byte)
  | freeze (p : Port) (tag : Byte) (rest : List Byte)
  | unfreeze (p : Port) (tag : Byte) (rest : List Byte)
  | elementRelease (p : Port) (tag : Byte) (body : List Byte)
  | replyTransmitted (p : Port)
  | portLinkTimerExpiry (p : Port)
  /-- A frame of the kind ECHO with its tag and the bytes of its body. -/
  | echo (n : Node) (tag : Byte) (body : List Byte)
  /-- A frame of the kind SAMPLE with the bytes of its body; its tag is not used (R137). -/
  | sampleFrame (n : Node) (body : List Byte)
  /-- A frame of a node character by character, which the block judges. -/
  | nodeFrameError (n : Node) (frame : LinkFrame)
  | orderIntervalExpiry (n : Node)
  | spacingTimerExpiry (n : Node)
  | echoTimeout (n : Node) (order : OrderNo)
  | silenceTimerExpiry (n : Node)
  | heldDrawTimerExpiry (n : Node)
  | holdTimerExpiry (v : ValueId)
  | degradeTimerExpiry (v : ValueId)
  | regulationPass
  | demistExitHoldExpiry
  | defrostTimerExpiry
  | glassTargetHoldExpiry
  | heldTimerExpiry (d : DoorNo)
  | trailingTimerExpiry (d : DoorNo)
  | decayEnd (d : DoorNo)
  | doorTick
  | doorOpenSecond (d : DoorNo)
  | dewireTimerExpiry
  | envelopeHoldExpiry
  | restoreStep
  | allocationTimerExpiry
  | shortfallTimerExpiry (c : HeatClass)
  | surplusWindowEndTime
  | energy
  | lockoutTimerExpiry (i : SlotNo)
  | beatSlotBoundary
  | overrideExpiry (e : EntryNo)
  /-- `stopBit` is false for a character received without its stop bit. -/
  | masterCharacterReceived (p : Port) (char : Byte) (stopBit : Bool)
  deriving DecidableEq, Repr

end Sys2Proof
end

