-- ==== Sys2Proof/Machine/Types.lean ====
section
/-! DEFINITION. The records that the blocks of the 2610 hold, one structure per record of the manual,
with the manual's field order. All are plain data. Enumerations stand in the order in which the rule
that specifies them lists them, since R191 codes them from 0 in that order. -/

namespace Sys2Proof.Machine

/-- A timer of the 1 ms time base: its expiry time while running, none while stopped. -/
abbrev Timer := Option Nat

/-! ### Configuration (chapter 11) -/

/-- Whose heat an element delivers (R116). -/
inductive Owner where
  | zone (z : ZoneNo)
  | curtain (d : DoorNo)
  | screen
  deriving DecidableEq, Repr

inductive ElemKind where
  | contactor | modulated
  deriving DecidableEq, Repr

/-- The configuration fields of one element slot (R116, items 10 to 16 of R186). -/
structure SlotCfg where
  present : Bool
  node : Node
  output : Nat
  owner : Owner
  kind : ElemKind
  rating : Nat
  phase : Nat
  deriving DecidableEq, Repr

/-- The settings of one input (R68; the width code has no meaning for LINE, R91). -/
structure InputCfg where
  enable : Bool
  activeHigh : Bool
  width : Nat
  deriving DecidableEq, Repr

/-- The working configuration: the items of R186, in item order. Durations are in the unit of the
item (s, ms or min), temperatures in tenths. -/
structure Settings where
  sensorHold : Nat
  sensorDegrade : Nat
  fallbackOutside : Int
  weights : Vector (Vector Nat 6) 4
  slots : Vector SlotCfg 24
  regPeriod : Nat
  baseSetpoint : Vector Int 6
  kp : Nat
  ki : Nat
  kf : Nat
  kv : Nat
  imax : Nat
  fallbackBias : Nat
  freshCold : Nat
  freshMild : Nat
  demistFloor : Nat
  mWatch : Int
  mOn : Int
  mOff : Int
  demistHold : Nat
  filmShare : Nat
  qDemist : Nat
  qDefrost : Nat
  defrostDuration : Nat
  glassTarget : Int
  glassLimit : Int
  coldStart : Bool
  inputs : Vector InputCfg 6
  bd : Vector Nat 4
  heldLimit : Nat
  trailingTime : Nat
  curtainThreshold : Int
  heldShare : Nat
  dropFilter : Nat
  restoreFilter : Nat
  dewireThreshold : Nat
  fallbackEnvelope : Nat
  restoreRamp : Nat
  quota : Vector Nat 4
  shortfallNotice : Nat
  absorbBand : Int
  minOn : Nat
  minOff : Nat
  slotLength : Nat
  markLength : Nat
  orderInterval : Nat
  windowSize : Nat
  echoTimeout : Nat
  nodeSilence : Nat
  groups : Vector (BitVec 6) 4
  driverExpiry : Nat
  deriving DecidableEq, Repr

inductive StoreState where
  | idle | storing
  deriving DecidableEq, Repr

inductive StoreResult where
  | none | ok | failed
  deriving DecidableEq, Repr

inductive LoadResult where
  | loaded | defaulted
  deriving DecidableEq, Repr

/-- The Configuration Store (R186, R189): the working configuration, the store record, and the
non-volatile copy with whether it passes its integrity check. `storeStart` is the acceptance of the
store in progress. -/
structure ConfigStore where
  work : Settings
  storeState : StoreState
  snapshot : Option Settings
  lastStore : StoreResult
  load : LoadResult
  nonVolatile : Settings
  nonVolatileGood : Bool
  storeStart : Nat
  deriving DecidableEq, Repr

/-! ### Sample Table (chapter 1) -/

inductive Quality where
  | fresh | stale | missing
  deriving DecidableEq, Repr

/-- Coded in the order of R8's table. -/
inductive Rejection where
  | none | notFitted | sensorFault | outOfRange
  deriving DecidableEq, Repr

inductive ToSource where
  | front | rear | fallback
  deriving DecidableEq, Repr

/-- A value record (chapter 1.4). For a zone `value` is Tz and `window` its samples, oldest first;
a single value has an empty window. The hold and degrade timers run from `lastValid` with the times
in force (R11, R12), so they are computed and not kept twice. -/
structure ValueRec where
  value : Option Int
  window : List Int
  lastValid : Option Nat
  quality : Quality
  rejection : Rejection
  deriving DecidableEq, Repr

structure SampleTable where
  air : Vector ValueRec 6
  outsideFront : ValueRec
  outsideRear : ValueRec
  glass : ValueRec
  humidity : ValueRec
  outsideTemp : Int
  outsideSource : ToSource
  firstOutside : Bool
  deriving DecidableEq, Repr

/-! ### Zone Regulator (chapter 2) -/

/-- The set of hold reasons of a zone (R21). -/
structure HoldReasons where
  off : Bool
  gap : Bool
  missing : Bool
  stale : Bool
  door : Bool
  deriving DecidableEq, Repr

inductive ZoneState where
  | off | gapHold | degraded | sensorHold | doorHold | normal
  deriving DecidableEq, Repr

/-- A zone record (R21). `baseBlower` is the base level of R41 at the last pass, which the ordered
level returns to when a floor of R42 ends. -/
structure ZoneRec where
  ts : Int
  tz : Option Int
  tzQuality : Quality
  err : Option Int
  prop : Int
  integ : Int
  iTerm : Int
  feed : Nat
  hb : Nat
  quantHb : Nat
  upperStop : Bool
  lowerStop : Bool
  reasons : HoldReasons
  state : ZoneState
  lastBaseGrant : Nat
  lastPosted : Nat
  shortfall : Bool
  blower : Nat
  baseBlower : Nat
  deriving DecidableEq, Repr

inductive AirSource where
  | normal | overridden | floored
  deriving DecidableEq, Repr

/-- A section air record (R43). The screen flap of the front record stands in the screen record. -/
structure AirRec where
  normalFresh : Nat
  resolvedAir : Option Nat
  source : AirSource
  commanded : Nat
  deriving DecidableEq, Repr

structure ZoneRegulator where
  zones : Vector ZoneRec 6
  airFront : AirRec
  airRear : AirRec
  passTimer : Timer
  deriving DecidableEq, Repr

/-! ### Screen Controller (chapter 3) -/

inductive TcabSource where
  | zone | setpoint
  deriving DecidableEq, Repr

inductive ScreenState where
  | clear | watch | demist | defrost | failsafe
  deriving DecidableEq, Repr

inductive ActingMode where
  | demist | clear
  deriving DecidableEq, Repr

inductive Flap where
  | floor | mix | screen
  deriving DecidableEq, Repr

inductive DefrostOrigin where
  | none | coldStart | placed
  deriving DecidableEq, Repr

inductive DefrostEnd where
  | none | duration | glassTarget | cancelled
  deriving DecidableEq, Repr

inductive ColdDecision where
  | pending | taken
  deriving DecidableEq, Repr

/-- The screen record (R49), with the entry thresholds that the last computation of R50 used: a changed
Mwatch or Mon takes effect at the next one (R65). -/
structure ScreenRec where
  tcab : Int
  tcabSource : TcabSource
  rh : Option Int
  tg : Option Int
  tgQuality : Quality
  rhQuality : Quality
  dew : Option Int
  margin : Option Int
  state : ScreenState
  acting : Option ActingMode
  flap : Flap
  airRequest : Bool
  exitHold : Timer
  origin : DefrostOrigin
  duration : Nat
  defrostTimer : Timer
  glassHold : Timer
  lastEnd : DefrostEnd
  coldDecision : ColdDecision
  filmLatch : Bool
  filmPosted : Nat
  partPosted : Nat
  mWatch : Int
  mOn : Int
  deriving DecidableEq, Repr

/-! ### Inputs and doors (chapter 4) -/

inductive Filtered where
  | active | inactive | unsettled
  deriving DecidableEq, Repr

/-- An input record without its settings, which are configuration (R68, R91). -/
structure InputRec where
  raw : PinLevel
  stableSince : Nat
  filtered : Filtered
  deriving DecidableEq, Repr

inductive DoorState where
  | closed | armed | open | held | trailing
  deriving DecidableEq, Repr

inductive CurtainBlower where
  | off | low | high
  deriving DecidableEq, Repr

/-- A door record (R71). `decayTimer` expires at the close plus the decay time (R78);
`secondsCounted` is how many whole seconds of the dwell have been signalled (R86);
`contribution` is the door's share of each zone's door part at the last posting (R89). -/
structure DoorRec where
  state : DoorState
  openStart : Option Nat
  dwell : Nat
  level : Nat
  vclose : Option Nat
  decayTime : Option Nat
  decayRemaining : Option Nat
  decayTimer : Timer
  ring : List Nat
  curtainHeat : Nat
  curtainBlower : CurtainBlower
  trailingTimer : Timer
  heldTimer : Timer
  inUse : Bool
  secondsCounted : Nat
  contribution : Vector Nat 6
  deriving DecidableEq, Repr

structure DoorController where
  doors : Vector DoorRec 4
  tick : Timer
  deriving DecidableEq, Repr

/-! ### Override Table (chapter 8) -/

inductive OverrideKind where
  | setpointShift | zoneOff | zoneCap | air | defrost | curtainOff
  deriving DecidableEq, Repr

inductive Target where
  | zone (z : ZoneNo)
  | group (g : Fin 8)
  | door (d : DoorNo)
  | screen
  deriving DecidableEq, Repr

inductive Source where
  | desk | service
  deriving DecidableEq, Repr

/-- An override entry (R152). -/
structure Entry where
  kind : OverrideKind
  target : Target
  value : Option Int
  source : Source
  expiry : Option Nat
  seq : Nat
  suspended : Bool
  deriving DecidableEq, Repr

structure OverrideTable where
  slots : Vector (Option Entry) 16
  running : Nat
  deriving DecidableEq, Repr

/-! ### Power Allocator (chapter 5) -/

inductive LineState where
  | present | gap | dewired
  deriving DecidableEq, Repr

inductive EnvelopeState where
  | none | live | lapsed
  deriving DecidableEq, Repr

/-- A member record of the demand table with its grant (R98). -/
structure MemberRec where
  posted : Nat
  demand : Nat
  held : Nat
  grant : Nat
  deriving DecidableEq, Repr

/-- What the last allocation pass left for a class (R104, R105), and its shortfall run (R107). -/
structure ClassRec where
  demand : Nat
  held : Nat
  reserve : Nat
  grant : Nat
  short : Bool
  timer : Timer
  deriving DecidableEq, Repr

/-- The surplus record (R108); `endTime` is none while the window state is NONE. -/
structure SurplusRec where
  isOpen : Bool
  offered : Nat
  accepted : Nat
  endTime : Timer
  absorbed : Vector Nat 24
  deriving DecidableEq, Repr

structure PowerAllocator where
  line : LineState
  gapStart : Option Nat
  preGapDraw : Nat
  dewireTimer : Timer
  envelope : Nat
  envState : EnvelopeState
  envTimer : Timer
  ceiling : Nat
  ceilingActive : Bool
  stepTimer : Timer
  members : Vector MemberRec 18
  classes : Vector ClassRec 4
  surplus : SurplusRec
  allocTimer : Timer
  drawTimer : Timer
  deriving DecidableEq, Repr

/-! ### Element Stager (chapter 6) -/

inductive ElemState where
  | inService | lockedOut | offline | absent
  deriving DecidableEq, Repr

inductive LockoutReason where
  | overheat | mismatch
  deriving DecidableEq, Repr

/-- An element record without its configuration fields (R116). `closed` is the ordered level of a
contactor and `duty` that of a modulated element; `draw` is a modulated element's draw (a contactor's
follows from `closed` and the closure queue, R121); `applied` is the level the node reported. -/
structure ElemRec where
  state : ElemState
  lockout : Option LockoutReason
  autoReleases : Nat
  lockoutTimer : Timer
  closed : Bool
  granted : Nat
  duty : Nat
  draw : Nat
  applied : Option Nat
  overheat : Bool
  mismatch : Nat
  closedSince : Option Nat
  openedSince : Option Nat
  deriving DecidableEq, Repr

/-- The Element Stager: element table, closure queue (head first, R124), stage beat (R126) and the
period-mark lines (R127). -/
structure ElementStager where
  elems : Vector ElemRec 24
  queue : List SlotNo
  slotCounter : Nat
  slotLength : Nat
  markLength : Nat
  slotTimer : Timer
  pmf : Bool
  pmr : Bool
  deriving DecidableEq, Repr

/-! ### Node Link Controller (chapter 7) -/

inductive LinkState where
  | down | up | lost
  deriving DecidableEq, Repr

/-- What an order carried for one element of the node: its level and its phase. -/
structure CarriedLevel where
  slot : SlotNo
  level : Nat
  phase : Nat
  deriving DecidableEq, Repr

/-- An entry of the order window (R136). -/
structure OrderEntry where
  number : OrderNo
  sentAt : Nat
  timeout : Nat
  levels : List CarriedLevel
  deriving DecidableEq, Repr

/-- Error class of a frame error on a node link (R137). -/
inductive LinkFault where
  | check | length | kind
  deriving DecidableEq, Repr

/-- Body of a valid SAMPLE frame, as delivered (R195). -/
structure SampleBody where
  air0 : Half
  air1 : Half
  air2 : Half
  outside : Half
  glass : Half
  rh : Byte
  deriving DecidableEq, Repr

/-- Body of a valid ECHO frame, as delivered: the node-restarted flag, the overheat mask and, for
outputs 0 to 15, the two bytes of the applied output (R195). -/
structure EchoBody where
  restarted : Bool
  overheat : Half
  applied : Vector (Byte × Byte) 16
  deriving DecidableEq, Repr

/-- What a frame from a node is judged to be: one of the two valid kinds, or a frame error (R137). -/
inductive NodeArrival where
  | echo (tag : Byte) (body : EchoBody)
  | sample (body : SampleBody)
  | fault (f : LinkFault)
  deriving DecidableEq, Repr

/-- The link-error latch (R136), a set. -/
structure LinkErrors where
  check : Bool
  length : Bool
  kind : Bool
  timeout : Bool
  late : Bool
  deriving DecidableEq, Repr

/-- A link context (R136). `orderTimer` is none from its expiry to the next send. `lastOrder` is the
frame that the link transmitted last (R138, R195), empty before the first. -/
structure LinkCtx where
  state : LinkState
  validRun : Nat
  lastValid : Option Nat
  silenceTimer : Timer
  window : List OrderEntry
  nextNumber : OrderNo
  orderTimer : Timer
  spacingTimer : Timer
  pendingMarker : Bool
  echoMiss : Nat
  frameErrors : Nat
  errorWindow : List Nat
  latch : LinkErrors
  lateEchoes : Nat
  restarts : Nat
  lastRestart : Option Nat
  lostTime : Option Nat
  heldDraw : Nat
  heldTimer : Timer
  lastOrder : List Byte
  deriving DecidableEq, Repr

structure LinkController where
  front : LinkCtx
  rear : LinkCtx
  deriving DecidableEq, Repr

/-! ### Activity Counters (chapter 10) -/

/-- The counted events, coded 0 to 14 (R181). -/
inductive CountedEvent where
  | energy | shortfallPass | doorOpen | doorOpenSecond | gap | dewire | forcedShed
  | surplusOffered | surplusAccepted | nodeFrameError | echoMiss | lateEcho | demistEntry
  | overridePlaced | contactorClose
  deriving DecidableEq, Repr

inductive CountMode where
  | count | sum | edge
  deriving DecidableEq, Repr

structure CounterSetup where
  event : CountedEvent
  mask : Byte
  threshold : Nat
  mode : CountMode
  freezeOnOverflow : Bool
  enable : Bool
  deriving DecidableEq, Repr

structure CounterRec where
  value : Nat
  overflow : Bool
  frozen : Bool
  counted : Bool
  setup : CounterSetup
  deriving DecidableEq, Repr

/-! ### Master Port Unit (chapter 9) -/

/-- The twenty notice conditions, numbered 0 to 19 (R175). -/
inductive Notice where
  | zoneDegraded | shortfall | gapBegin | gapEnd | dewired | envelopeLapsed | surplusEnd
  | doorHeld | demistActive | defrostDone | nodeLost | nodeBack | linkErrors | elementLockout
  | overrideEvicted | overrideExpired | storeDone | configDefaulted | counterOverflow | portLost
  deriving DecidableEq, Repr

/-- The nine reply statuses, coded 0 to 8 (R173). -/
inductive Status where
  | done | doneClamped | accepted | refusedRole | refusedUnknown | refusedMalformed
  | refusedFull | refusedTarget | refusedState
  deriving DecidableEq, Repr

/-- A reply in a reply queue: the kind, the tag and the body, which opens with the status (R192). -/
structure Reply where
  kind : Byte
  tag : Byte
  body : List Byte
  deriving DecidableEq, Repr

inductive RxState where
  | hunt | receiving
  deriving DecidableEq, Repr

inductive PortLink where
  | linked | unlinked
  deriving DecidableEq, Repr

/-- A port context (R168). `lastChar` is the time of the last character of the frame in assembly
(R169's 5 ms run from it). -/
structure PortCtx where
  receiver : RxState
  frame : List Byte
  lastChar : Nat
  link : PortLink
  lastGood : Option Nat
  linkTimer : Timer
  frameErrors : Nat
  overruns : Nat
  replies : List Reply
  notices : BitVec 20
  mask : BitVec 20
  globalEnable : Bool
  attention : Bool
  deriving DecidableEq, Repr

structure PortUnit where
  desk : PortCtx
  power : PortCtx
  service : PortCtx
  deriving DecidableEq, Repr

end Sys2Proof.Machine
end

