-- ==== Sys2Proof/Config.lean ====
section
/-! DEFINITION. What the manual fixes for every installation, and the free values: what it leaves open,
as constants with no body, each applied to the counter `freeCount` of State that the step advances. -/

namespace Sys2Proof.Config

open Sys2Proof.Machine

/-! ### Fixed times and capacities (R94, R96, R102, R112, R113, R133, R149) -/

/-- Envelope hold time, ms (R94). -/
def envelopeHold : Nat := 1000
/-- Allocation timer, ms (R102). -/
def allocationPeriod : Nat := 250
/-- Restore step timer, ms (R96). -/
def restoreStepPeriod : Nat := 250
/-- Draw timer, ms (R112). -/
def drawPeriod : Nat := 1000
/-- Lost-node release interval, ms (R145). -/
def releaseInterval : Nat := 3000
/-- Door tick, ms (R85). -/
def doorTickPeriod : Nat := 250
/-- Glass-target hold, ms (R60). -/
def glassTargetHold : Nat := 60000
/-- Automatic release of an OVERHEAT lockout, ms (R129). -/
def lockoutTime : Nat := 300000
/-- Automatic releases before a lockout holds (R129). -/
def maxAutoReleases : Nat := 3
/-- Consecutive mismatching echoes for a lockout (R131). -/
def mismatchLimit : Nat := 3
/-- Closure queue capacity (R124). -/
def queueCapacity : Nat := 12
/-- Slots of a modulation period (R126). -/
def periodSlots : Nat := 64
/-- Spacing between orders on one link, ms (R139). -/
def orderSpacing : Nat := 20
/-- Consecutive valid frames for UP (R144). -/
def framesForUp : Nat := 3
/-- Echo-miss run for LOST (R140). -/
def missesForLost : Nat := 5
/-- Frame errors within 1000 ms for LINK-ERRORS (R148). -/
def errorsForNotice : Nat := 8
/-- Longest gap between two characters of a master frame, ms (R169). -/
def interCharLimit : Nat := 5
/-- Port link timer, ms (R170). -/
def portLinkTime : Nat := 2000
/-- Reply queue capacity (R171). -/
def replyCapacity : Nat := 4
/-- Cap of the dwell, ms (R71). -/
def dwellCap : Nat := 600000
/-- Latest end of a store after its acceptance, ms (R189). -/
def storeLimit : Nat := 400

/-! ### Free values (notes/assumptions/1.md to 5.md) -/

/-- FREE VALUE. When two or more timers expire in one millisecond, which is taken next: the choice
numbered by the second argument among those still waiting (R28, R80, R165 leave the order open).
DESIGN CHOICE, safe: notes/assumptions/1.md. -/
opaque freeOrder : Nat → Nat → Nat

/-- FREE VALUE. Whether the Screen Controller takes the first outside value before its own work on the
same frame (chapter 3.11: either order). DESIGN CHOICE, safe: notes/assumptions/2.md. -/
opaque freeFirstOutsideLeads : Nat → Bool

/-- FREE VALUE. How long the non-volatile memory takes for a store, before the bound of R189.
DESIGN CHOICE, safe: notes/assumptions/3.md. -/
opaque freeStoreTime : Nat → Nat

/-- FREE VALUE. Whether the read-back of a store matches (R189).
DESIGN CHOICE, safe: notes/assumptions/3.md. -/
opaque freeReadBack : Nat → Bool

/-- The settings with every field zero, so that `Settings` is known to have a value. -/
def blankSettings : Settings where
  sensorHold := 0
  sensorDegrade := 0
  fallbackOutside := 0
  weights := Vector.replicate 4 (Vector.replicate 6 0)
  slots := Vector.replicate 24
    { present := false, node := .front, output := 0, owner := .screen, kind := .contactor,
      rating := 0, phase := 0 }
  regPeriod := 0
  baseSetpoint := Vector.replicate 6 0
  kp := 0
  ki := 0
  kf := 0
  kv := 0
  imax := 0
  fallbackBias := 0
  freshCold := 0
  freshMild := 0
  demistFloor := 0
  mWatch := 0
  mOn := 0
  mOff := 0
  demistHold := 0
  filmShare := 0
  qDemist := 0
  qDefrost := 0
  defrostDuration := 0
  glassTarget := 0
  glassLimit := 0
  coldStart := false
  inputs := Vector.replicate 6 { enable := false, activeHigh := false, width := 0 }
  bd := Vector.replicate 4 0
  heldLimit := 0
  trailingTime := 0
  curtainThreshold := 0
  heldShare := 0
  dropFilter := 0
  restoreFilter := 0
  dewireThreshold := 0
  fallbackEnvelope := 0
  restoreRamp := 0
  quota := Vector.replicate 4 0
  shortfallNotice := 0
  absorbBand := 0
  minOn := 0
  minOff := 0
  slotLength := 0
  markLength := 0
  orderInterval := 0
  windowSize := 0
  echoTimeout := 0
  nodeSilence := 0
  groups := Vector.replicate 4 0
  driverExpiry := 0

/-- A `Settings` exists: what an `opaque` constant of that type asks for. -/
structure SomeSettings where
  value : Settings := blankSettings
  deriving Inhabited

/-- FREE VALUE. What the non-volatile copy holds while a store is writing it and after one that ended
FAILED (R189 says only that it fails its check). DESIGN CHOICE, safe: notes/assumptions/4.md. -/
opaque freeCopy : Nat → SomeSettings

/-- FREE VALUE. The tenth byte of the SECTION-AIR record, whose nine listed fields R194 says take
10 bytes. DESIGN CHOICE, unsafe: notes/assumptions/5.md. -/
opaque freeSectionAirByte : Nat → Byte

end Sys2Proof.Config
end

