-- ==== Sys2Proof/WellFormed.lean ====
section
/-! DEFINITION. Which commands the ports can deliver: a frame carries at most 128 body bytes (R192),
UNKNOWN_REQUEST stands for a kind that names no request (R171), and the ECHO and SAMPLE frames of a node
have the lengths of R195. The other operands are in range by their types. -/

namespace Sys2Proof

/-- Request kind codes run from 01h to 0Fh (R192). -/
def namesRequest (kind : Byte) : Bool :=
  decide (1 ≤ kind.toNat) && decide (kind.toNat ≤ 15)

/-- The length byte of a master frame is 0 to 128 (R192). -/
def bodyFits (body : List Byte) : Bool :=
  decide (body.length ≤ 128)

/-- A COUNTER-CONTROL body has its action byte in front of `rest` (R193). -/
def restFits (rest : List Byte) : Bool :=
  decide (rest.length ≤ 127)

/-- Body lengths of ECHO and SAMPLE (R195). -/
def echoLength : Nat := 35
def sampleLength : Nat := 11

/-- A frame opens with the sync character A5h (R192). -/
def opensWithSync (frame : LinkFrame) : Bool :=
  (frame.head?.map (·.1)) == some 0xA5#8

/-- The commands that can arrive. -/
def Instr.wellFormed : Instr → Bool
  | .unknownRequest _ kind _ body => !namesRequest kind && bodyFits body
  | .readObject _ _ body => bodyFits body
  | .readNotices _ _ body => bodyFits body
  | .setNoticeMask _ _ body => bodyFits body
  | .placeOverride _ _ body => bodyFits body
  | .cancelOverride _ _ body => bodyFits body
  | .shiftChange _ _ body => bodyFits body
  | .setEnvelope _ _ body => bodyFits body
  | .offerSurplus _ _ body => bodyFits body
  | .endSurplus _ _ body => bodyFits body
  | .setConfig _ _ body => bodyFits body
  | .storeConfig _ _ body => bodyFits body
  | .restoreDefaults _ _ body => bodyFits body
  | .counterSetup _ _ body => bodyFits body
  | .preload _ _ rest => restFits rest
  | .clear _ _ rest => restFits rest
  | .clearFlags _ _ rest => restFits rest
  | .freeze _ _ rest => restFits rest
  | .unfreeze _ _ rest => restFits rest
  | .elementRelease _ _ body => bodyFits body
  | .deviceReset => true
  | .inputRawChange _ _ => true
  | .doorInputFilterExpiry _ => true
  | .lineFilterExpiry => true
  | .masterIntercharTimeout _ => true
  | .masterFrameError _ => true
  | .storeCompletion _ => true
  | .replyTransmitted _ => true
  | .portLinkTimerExpiry _ => true
  | .echo _ _ body => body.length == echoLength
  | .sampleFrame _ body => body.length == sampleLength
  | .nodeFrameError _ frame => opensWithSync frame
  | .orderIntervalExpiry _ => true
  | .spacingTimerExpiry _ => true
  | .echoTimeout _ _ => true
  | .silenceTimerExpiry _ => true
  | .heldDrawTimerExpiry _ => true
  | .holdTimerExpiry _ => true
  | .degradeTimerExpiry _ => true
  | .regulationPass => true
  | .demistExitHoldExpiry => true
  | .defrostTimerExpiry => true
  | .glassTargetHoldExpiry => true
  | .heldTimerExpiry _ => true
  | .trailingTimerExpiry _ => true
  | .decayEnd _ => true
  | .doorTick => true
  | .doorOpenSecond _ => true
  | .dewireTimerExpiry => true
  | .envelopeHoldExpiry => true
  | .restoreStep => true
  | .allocationTimerExpiry => true
  | .shortfallTimerExpiry _ => true
  | .surplusWindowEndTime => true
  | .energy => true
  | .lockoutTimerExpiry _ => true
  | .beatSlotBoundary => true
  | .overrideExpiry _ => true
  | .masterCharacterReceived _ _ _ => true

end Sys2Proof
end

