-- ==== Sys2Proof/Machine/Operands.lean ====
section
/-! DEFINITION. The operand forms of the frames: reading the fields of a body, writing the fields of a
record, the codes of the enumerations, and the cyclic check (chapter 12). -/

namespace Sys2Proof

/-! ### Codes of the operand types (R191) -/

def Node.code : Node → Nat
  | .front => 0
  | .rear => 1

def Node.ofCode? : Nat → Option Node
  | 0 => some .front
  | 1 => some .rear
  | _ => none

def HeatClass.index : HeatClass → Fin 4
  | .screen => 0
  | .cab => 1
  | .door => 2
  | .saloon => 3

def PinLevel.code : PinLevel → Nat
  | .high => 0
  | .low => 1

end Sys2Proof

namespace Sys2Proof.Machine

/-! ### Arithmetic of the conventions (R1, R2) -/

/-- Clamping of a signed value (R2). -/
def clampInt (lo hi x : Int) : Int :=
  if x < lo then lo else if hi < x then hi else x

/-- Clamping of a whole number (R2). -/
def clampNat (lo hi x : Nat) : Nat :=
  if x < lo then lo else if hi < x then hi else x

/-- A count that stays at its cap. -/
def capped (cap x : Nat) : Nat :=
  min cap x

/-- `a / b` rounded up, for the modulated draw (R1, R122). -/
def ceilDiv (a b : Nat) : Nat :=
  (a + b - 1) / b

/-! ### Reading fields (R191: most significant byte first) -/

/-- The byte at position `i` of a body. -/
def byteAt (b : List Byte) (i : Nat) : Byte :=
  b.getD i 0

/-- An unsigned one-byte field. -/
def u8 (b : List Byte) (i : Nat) : Nat :=
  (byteAt b i).toNat

/-- An unsigned two-byte field. -/
def u16 (b : List Byte) (i : Nat) : Nat :=
  u8 b i * 256 + u8 b (i + 1)

/-- An unsigned three-byte field. -/
def u24 (b : List Byte) (i : Nat) : Nat :=
  u8 b i * 65536 + u16 b (i + 1)

/-- An unsigned four-byte field. -/
def u32 (b : List Byte) (i : Nat) : Nat :=
  u16 b i * 65536 + u16 b (i + 2)

/-- A signed two-byte field, two's complement (R191). -/
def s16 (b : List Byte) (i : Nat) : Int :=
  (BitVec.ofNat 16 (u16 b i)).toInt

/-- A signed four-byte field, two's complement (R191). -/
def s32 (b : List Byte) (i : Nat) : Int :=
  (BitVec.ofNat 32 (u32 b i)).toInt

/-! ### Writing fields -/

/-- A one-byte field. -/
def w8 (x : Nat) : List Byte :=
  [BitVec.ofNat 8 x]

/-- A two-byte field, signed or unsigned. -/
def w16 (x : Int) : List Byte :=
  [BitVec.ofInt 8 (x / 256), BitVec.ofInt 8 x]

/-- A three-byte field. -/
def w24 (x : Nat) : List Byte :=
  [BitVec.ofNat 8 (x / 65536), BitVec.ofNat 8 (x / 256), BitVec.ofNat 8 x]

/-- A four-byte field, signed or unsigned. -/
def w32 (x : Int) : List Byte :=
  w16 (x / 65536) ++ w16 x

/-- A flag: 1 for set or on, 0 for clear or off (R191). -/
def wFlag (b : Bool) : List Byte :=
  w8 (if b then 1 else 0)

/-- A one-byte field that may be absent, FFh (R191). -/
def w8? (x : Option Nat) : List Byte :=
  w8 (x.getD 0xFF)

/-- An unsigned two-byte field that may be absent, FFFFh (R191). -/
def w16? (x : Option Nat) : List Byte :=
  w16 (x.getD 0xFFFF)

/-- A signed two-byte field that may be absent, 8000h (R191). -/
def wSigned? (x : Option Int) : List Byte :=
  w16 (x.getD 0x8000)

/-! ### Codes (R191: from 0 in the order the rule lists them) -/

/-- Owner codes of the ELEMENT record and of SET-CONFIG (R187, R194). -/
def Owner.code : Owner → Nat
  | .zone z => z.val
  | .curtain d => 11 + d.val
  | .screen => 20

def Owner.ofCode? (c : Nat) : Option Owner :=
  if h : c < 6 then some (.zone ⟨c, h⟩)
  else if h : 11 ≤ c ∧ c < 15 then some (.curtain ⟨c - 11, by omega⟩)
  else if c = 20 then some .screen
  else none

def ElemKind.code : ElemKind → Nat
  | .contactor => 0
  | .modulated => 1

def ElemKind.ofCode? : Nat → Option ElemKind
  | 0 => some .contactor
  | 1 => some .modulated
  | _ => none

def Quality.code : Quality → Nat
  | .fresh => 0
  | .stale => 1
  | .missing => 2

/-- The rejections in the order of the table of R8. DEDUCED, unsafe: notes/assumptions/27.md. -/
def Rejection.code : Rejection → Nat
  | .none => 0
  | .notFitted => 1
  | .sensorFault => 2
  | .outOfRange => 3

def ToSource.code : ToSource → Nat
  | .front => 0
  | .rear => 1
  | .fallback => 2

def HoldReasons.mask (r : HoldReasons) : Nat :=
  r.off.toNat + 2 * r.gap.toNat + 4 * r.missing.toNat + 8 * r.stale.toNat + 16 * r.door.toNat

def ZoneState.code : ZoneState → Nat
  | .off => 0
  | .gapHold => 1
  | .degraded => 2
  | .sensorHold => 3
  | .doorHold => 4
  | .normal => 5

def AirSource.code : AirSource → Nat
  | .normal => 0
  | .overridden => 1
  | .floored => 2

def TcabSource.code : TcabSource → Nat
  | .zone => 0
  | .setpoint => 1

def ScreenState.code : ScreenState → Nat
  | .clear => 0
  | .watch => 1
  | .demist => 2
  | .defrost => 3
  | .failsafe => 4

def ActingMode.code : ActingMode → Nat
  | .demist => 0
  | .clear => 1

def Flap.code : Flap → Nat
  | .floor => 0
  | .mix => 1
  | .screen => 2

def DefrostOrigin.code : DefrostOrigin → Nat
  | .none => 0
  | .coldStart => 1
  | .placed => 2

def DefrostEnd.code : DefrostEnd → Nat
  | .none => 0
  | .duration => 1
  | .glassTarget => 2
  | .cancelled => 3

def ColdDecision.code : ColdDecision → Nat
  | .pending => 0
  | .taken => 1

def Filtered.code : Filtered → Nat
  | .active => 0
  | .inactive => 1
  | .unsettled => 2

def DoorState.code : DoorState → Nat
  | .closed => 0
  | .armed => 1
  | .open => 2
  | .held => 3
  | .trailing => 4

def CurtainBlower.code : CurtainBlower → Nat
  | .off => 0
  | .low => 1
  | .high => 2

def OverrideKind.code : OverrideKind → Nat
  | .setpointShift => 0
  | .zoneOff => 1
  | .zoneCap => 2
  | .air => 3
  | .defrost => 4
  | .curtainOff => 5

def OverrideKind.ofCode? : Nat → Option OverrideKind
  | 0 => some .setpointShift
  | 1 => some .zoneOff
  | 2 => some .zoneCap
  | 3 => some .air
  | 4 => some .defrost
  | 5 => some .curtainOff
  | _ => none

/-- A target as type × 16 + number (R194); doors are numbered from 1, the screen has number 0. -/
def Target.code : Target → Nat
  | .zone z => z.val
  | .group g => 16 + g.val
  | .door d => 32 + (d.val + 1)
  | .screen => 48

/-- A target from its type and number bytes (R193); the screen's number is not looked at. -/
def Target.ofCodes? (type number : Nat) : Option Target :=
  match type with
  | 0 => if h : number < 6 then some (.zone ⟨number, h⟩) else none
  | 1 => if h : number < 8 then some (.group ⟨number, h⟩) else none
  | 2 => if h : 1 ≤ number ∧ number ≤ 4 then some (.door ⟨number - 1, by omega⟩) else none
  | 3 => some .screen
  | _ => none

def LineState.code : LineState → Nat
  | .present => 0
  | .gap => 1
  | .dewired => 2

def EnvelopeState.code : EnvelopeState → Nat
  | .none => 0
  | .live => 1
  | .lapsed => 2

def ElemState.code : ElemState → Nat
  | .inService => 0
  | .lockedOut => 1
  | .offline => 2
  | .absent => 3

def LockoutReason.code : LockoutReason → Nat
  | .overheat => 0
  | .mismatch => 1

def LinkState.code : LinkState → Nat
  | .down => 0
  | .up => 1
  | .lost => 2

def LinkErrors.mask (e : LinkErrors) : Nat :=
  e.check.toNat + 2 * e.length.toNat + 4 * e.kind.toNat + 8 * e.timeout.toNat + 16 * e.late.toNat

def CountedEvent.code : CountedEvent → Nat
  | .energy => 0
  | .shortfallPass => 1
  | .doorOpen => 2
  | .doorOpenSecond => 3
  | .gap => 4
  | .dewire => 5
  | .forcedShed => 6
  | .surplusOffered => 7
  | .surplusAccepted => 8
  | .nodeFrameError => 9
  | .echoMiss => 10
  | .lateEcho => 11
  | .demistEntry => 12
  | .overridePlaced => 13
  | .contactorClose => 14

def CountedEvent.ofCode? : Nat → Option CountedEvent
  | 0 => some .energy
  | 1 => some .shortfallPass
  | 2 => some .doorOpen
  | 3 => some .doorOpenSecond
  | 4 => some .gap
  | 5 => some .dewire
  | 6 => some .forcedShed
  | 7 => some .surplusOffered
  | 8 => some .surplusAccepted
  | 9 => some .nodeFrameError
  | 10 => some .echoMiss
  | 11 => some .lateEcho
  | 12 => some .demistEntry
  | 13 => some .overridePlaced
  | 14 => some .contactorClose
  | _ => none

def CountMode.code : CountMode → Nat
  | .count => 0
  | .sum => 1
  | .edge => 2

def CountMode.ofCode? : Nat → Option CountMode
  | 0 => some .count
  | 1 => some .sum
  | 2 => some .edge
  | _ => none

def Notice.code : Notice → Nat
  | .zoneDegraded => 0
  | .shortfall => 1
  | .gapBegin => 2
  | .gapEnd => 3
  | .dewired => 4
  | .envelopeLapsed => 5
  | .surplusEnd => 6
  | .doorHeld => 7
  | .demistActive => 8
  | .defrostDone => 9
  | .nodeLost => 10
  | .nodeBack => 11
  | .linkErrors => 12
  | .elementLockout => 13
  | .overrideEvicted => 14
  | .overrideExpired => 15
  | .storeDone => 16
  | .configDefaulted => 17
  | .counterOverflow => 18
  | .portLost => 19

def Status.code : Status → Nat
  | .done => 0
  | .doneClamped => 1
  | .accepted => 2
  | .refusedRole => 3
  | .refusedUnknown => 4
  | .refusedMalformed => 5
  | .refusedFull => 6
  | .refusedTarget => 7
  | .refusedState => 8

def StoreState.code : StoreState → Nat
  | .idle => 0
  | .storing => 1

def StoreResult.code : StoreResult → Nat
  | .none => 0
  | .ok => 1
  | .failed => 2

def LoadResult.code : LoadResult → Nat
  | .loaded => 0
  | .defaulted => 1

def PortLink.code : PortLink → Nat
  | .linked => 0
  | .unlinked => 1

/-! ### The cyclic check (R192) -/

/-- One bit of the check: generator 1021h, the register shifted towards its most significant bit. -/
def checkBit (reg : Half) : Half :=
  if reg.msb then (reg <<< 1) ^^^ 0x1021#16 else reg <<< 1

/-- `k` bits of the check. -/
def checkBits : Nat → Half → Half
  | 0, reg => reg
  | k + 1, reg => checkBits k (checkBit reg)

/-- One byte into the check, most significant bit first. -/
def checkByte (reg : Half) (b : Byte) : Half :=
  checkBits 8 (reg ^^^ (b.zeroExtend 16 <<< 8))

/-- The check of a run of bytes, preset to FFFFh and not inverted. -/
def cyclicCheck (bytes : List Byte) : Half :=
  bytes.foldl checkByte 0xFFFF#16

/-- The sync character. -/
def syncChar : Byte := 0xA5#8

/-- A whole frame: sync, length, kind, tag, body and check, high byte first (R192). -/
def frameBytes (kind tag : Byte) (body : List Byte) : List Byte :=
  let covered := BitVec.ofNat 8 body.length :: kind :: tag :: body
  syncChar :: covered ++ w16 (cyclicCheck covered).toNat

/-- The bytes that the check covers: everything between the sync character and the check (R192). -/
def covered (frame : List Byte) : List Byte :=
  (frame.drop 1).take (frame.length - 3)

/-- Whether the two check characters of a complete frame match (R192). -/
def checkGood (frame : List Byte) : Bool :=
  (cyclicCheck (covered frame)).toNat == u16 frame (frame.length - 2)

/-- The characters that a reply puts on its port's transmit line. -/
def Reply.characters (r : Reply) : List Byte :=
  frameBytes r.kind r.tag r.body

/-! ### Frames of the nodes (R137, R195) -/

/-- Kind codes of the two frames that a node sends (R195). -/
def echoKind : Byte := 0x41#8
def sampleKind : Byte := 0x42#8

/-- The fields of an ECHO body: the node-restarted flag, the overheat mask, and two bytes for each of outputs 0
to 15 (R195). A flag byte other than 0 is taken as set. DESIGN CHOICE, unsafe: notes/assumptions/13.md. -/
def readEcho (body : List Byte) : EchoBody where
  restarted := byteAt body 0 != 0
  overheat := BitVec.ofNat 16 (u16 body 1)
  applied := Vector.ofFn fun o => (byteAt body (3 + 2 * o.val), byteAt body (4 + 2 * o.val))

/-- The fields of a SAMPLE body: three air values, outside, glass and humidity (R195). -/
def readSample (body : List Byte) : SampleBody where
  air0 := BitVec.ofNat 16 (u16 body 0)
  air1 := BitVec.ofNat 16 (u16 body 2)
  air2 := BitVec.ofNat 16 (u16 body 4)
  outside := BitVec.ofNat 16 (u16 body 6)
  glass := BitVec.ofNat 16 (u16 body 8)
  rh := byteAt body 10

/-- A frame whose characters came without a gap and whose check is good, judged by its kind and the length of
its body (R137, R195). -/
def judgeBody (kind tag : Byte) (body : List Byte) : NodeArrival :=
  if kind = echoKind then
    if body.length = echoLength then .echo tag (readEcho body) else .fault .length
  else if kind = sampleKind then
    if body.length = sampleLength then .sample (readSample body) else .fault .length
  else .fault .kind

/-- Whether the characters of a node frame came in full: as many as its length names, and no gap of more than
5 ms between two of them (R137, R192). -/
def cameInFull (frame : LinkFrame) : Bool :=
  (frame.drop 1).all (fun c => decide (c.2 ≤ 5)) &&
    frame.length == u8 (frame.map (·.1)) 1 + 6

/-- A frame from a node judged: a gap first, which ends a frame before its check, then the check, then the
kind, then the length that the kind asks for (R137). DESIGN CHOICE, unsafe, for the order of the tests:
notes/assumptions/13.md. -/
def judgeFrame (frame : LinkFrame) : NodeArrival :=
  let chars := frame.map (·.1)
  if !cameInFull frame then .fault .length
  else if !checkGood chars then .fault .check
  else judgeBody (byteAt chars 2) (byteAt chars 3) ((chars.drop 4).take (u8 chars 1))

end Sys2Proof.Machine
end

