-- ==== Sys2Proof/Machine/Defaults.lean ====
section
/-! DEFINITION. The factory defaults of the configuration (R186 and the rules it names), and the value
of each block's record after device reset under a loaded configuration (R20, R48, R67, R70, R90, R115,
R135, R151, R167, R179, R185). -/

namespace Sys2Proof.Machine

/-! ### Factory defaults -/

/-- A present slot of the default installation (R4). -/
def slotOf (i : Nat) (owner : Owner) (kind : ElemKind) (rating : Nat) (node : Node)
    (output : Nat) : SlotCfg :=
  { present := true, node, output, owner, kind, rating, phase := i * 8 % 64 }

/-- An ABSENT slot. R4 gives only its phase; DESIGN CHOICE, unsafe, for the other fields
(notes/assumptions/9.md). -/
def absentSlot (i : Nat) : SlotCfg :=
  { present := false, node := .front, output := 0, owner := .zone 0, kind := .contactor,
    rating := 1, phase := i * 8 % 64 }

/-- The default map (R4). -/
def factorySlot (i : Fin 24) : SlotCfg :=
  match i.val with
  | 0 => slotOf 0 (.zone 0) .contactor 20 .front 0
  | 1 => slotOf 1 (.zone 0) .modulated 20 .front 1
  | 2 => slotOf 2 (.zone 1) .contactor 40 .front 2
  | 3 => slotOf 3 (.zone 1) .contactor 40 .front 3
  | 4 => slotOf 4 (.zone 1) .modulated 40 .front 4
  | 5 => slotOf 5 (.zone 2) .contactor 40 .front 5
  | 6 => slotOf 6 (.zone 2) .contactor 40 .front 6
  | 7 => slotOf 7 (.zone 2) .modulated 40 .front 7
  | 8 => slotOf 8 (.zone 3) .contactor 20 .rear 0
  | 9 => slotOf 9 (.zone 3) .modulated 20 .rear 1
  | 10 => slotOf 10 (.zone 4) .contactor 40 .rear 2
  | 11 => slotOf 11 (.zone 4) .contactor 40 .rear 3
  | 12 => slotOf 12 (.zone 4) .modulated 40 .rear 4
  | 13 => slotOf 13 (.zone 5) .contactor 40 .rear 5
  | 14 => slotOf 14 (.zone 5) .contactor 40 .rear 6
  | 15 => slotOf 15 (.zone 5) .modulated 40 .rear 7
  | 16 => slotOf 16 (.curtain 0) .modulated 30 .front 8
  | 17 => slotOf 17 (.curtain 1) .modulated 30 .front 9
  | 18 => slotOf 18 (.curtain 2) .modulated 30 .rear 8
  | 19 => slotOf 19 (.curtain 3) .modulated 30 .rear 9
  | 20 => slotOf 20 .screen .modulated 30 .front 10
  | k => absentSlot k

/-- The factory defaults (R186; R4, R7, R29, R65, R88, R113, R133, R149, R154, R157). -/
def factory : Settings where
  sensorHold := 10
  sensorDegrade := 60
  fallbackOutside := -100
  weights := #v[#v[1, 3, 0, 0, 0, 0], #v[0, 0, 4, 0, 0, 0], #v[0, 0, 0, 2, 2, 0],
    #v[0, 0, 0, 0, 0, 4]]
  slots := Vector.ofFn factorySlot
  regPeriod := 2
  baseSetpoint := #v[200, 160, 160, 120, 160, 160]
  kp := 32
  ki := 16
  kf := 11
  kv := 8
  imax := 60
  fallbackBias := 10
  freshCold := 20
  freshMild := 40
  demistFloor := 75
  mWatch := 80
  mOn := 30
  mOff := 60
  demistHold := 30
  filmShare := 50
  qDemist := 20
  qDefrost := 30
  defrostDuration := 480
  glassTarget := 100
  glassLimit := 450
  coldStart := true
  inputs := #v[⟨true, true, 2⟩, ⟨true, true, 2⟩, ⟨true, true, 2⟩, ⟨true, true, 2⟩,
    ⟨true, true, 1⟩, ⟨true, true, 0⟩]
  bd := #v[40, 40, 40, 40]
  heldLimit := 90
  trailingTime := 8
  curtainThreshold := 120
  heldShare := 50
  dropFilter := 4
  restoreFilter := 100
  dewireThreshold := 10
  fallbackEnvelope := 150
  restoreRamp := 40
  quota := #v[30, 40, 120, 300]
  shortfallNotice := 30
  absorbBand := 15
  minOn := 10
  minOff := 10
  slotLength := 25
  markLength := 2
  orderInterval := 100
  windowSize := 2
  echoTimeout := 50
  nodeSilence := 500
  groups := #v[0, 0, 0, 0]
  driverExpiry := 30

/-! ### Block records after device reset -/

/-- A value record after device reset (R20). -/
def ValueRec.reset : ValueRec :=
  { value := none, window := [], lastValid := none, quality := .missing, rejection := .none }

/-- The Sample Table after device reset (R20). -/
def SampleTable.reset (c : Settings) : SampleTable where
  air := Vector.replicate 6 ValueRec.reset
  outsideFront := ValueRec.reset
  outsideRear := ValueRec.reset
  glass := ValueRec.reset
  humidity := ValueRec.reset
  outsideTemp := c.fallbackOutside
  outsideSource := .fallback
  firstOutside := false

/-- How FAILSAFE acts at an outside temperature (R57). -/
def actingFor (outside : Int) : ActingMode :=
  if outside < 50 then .demist else .clear

/-- Whether the screen-air request is asserted at reset (R67). -/
def requestAtReset (c : Settings) : Bool :=
  actingFor c.fallbackOutside == .demist

/-- The normal fresh fraction at an outside temperature (R44). -/
def normalFraction (c : Settings) (outside : Int) : Nat :=
  if outside < 0 then c.freshCold else c.freshMild

/-- A zone record after device reset (R48). -/
def ZoneRec.reset (c : Settings) (z : ZoneNo) : ZoneRec where
  ts := c.baseSetpoint[z]
  tz := none
  tzQuality := .missing
  err := none
  prop := 0
  integ := 0
  iTerm := 0
  feed := 0
  hb := 0
  quantHb := 0
  upperStop := false
  lowerStop := true
  reasons := { off := false, gap := false, missing := true, stale := false, door := false }
  state := .degraded
  lastBaseGrant := 0
  lastPosted := 0
  shortfall := false
  blower := if z = 0 ∧ requestAtReset c then 3 else 0
  baseBlower := 0

/-- The rear section air record after device reset (R48). -/
def AirRec.reset (c : Settings) : AirRec where
  normalFresh := normalFraction c c.fallbackOutside
  resolvedAir := none
  source := .normal
  commanded := normalFraction c c.fallbackOutside

/-- The demist floor applied to an air record while the screen-air request is asserted (R45). -/
def AirRec.floored (c : Settings) (request : Bool) (a : AirRec) : AirRec :=
  if request ∧ a.commanded < c.demistFloor then
    { a with commanded := c.demistFloor, source := .floored }
  else a

/-- The Zone Regulator after device reset at time `now` (R48). -/
def ZoneRegulator.reset (c : Settings) (now : Nat) : ZoneRegulator where
  zones := Vector.ofFn (ZoneRec.reset c)
  airFront := (AirRec.reset c).floored c (requestAtReset c)
  airRear := AirRec.reset c
  passTimer := some (now + c.regPeriod * 1000)

/-- The configured rating of the present slot with the given owner, 0 when there is none (R52, R82). -/
def ownedRating (c : Settings) (o : Owner) : Nat :=
  match (List.finRange 24).find? fun i => c.slots[i].present && c.slots[i].owner == o with
  | some i => c.slots[i].rating
  | none => 0

/-- Screen flap ordered by a state and acting mode (R52). -/
def flapFor : ScreenState → Option ActingMode → Flap
  | .clear, _ => .floor
  | .watch, _ => .mix
  | .demist, _ => .screen
  | .defrost, _ => .screen
  | .failsafe, some .demist => .screen
  | .failsafe, _ => .floor

/-- Screen-air request of a state and acting mode (R45, R52). -/
def requestFor : ScreenState → Option ActingMode → Bool
  | .demist, _ => true
  | .defrost, _ => true
  | .failsafe, some .demist => true
  | _, _ => false

/-- Whether a state and acting mode is a behaviour that demists (R55). -/
def demists : ScreenState → Option ActingMode → Bool
  | .demist, _ => true
  | .failsafe, some .demist => true
  | _, _ => false

/-- Film demand of a state and acting mode, before the over-temperature latch (R52). -/
def filmFor (c : Settings) : ScreenState → Option ActingMode → Nat
  | .defrost, _ => ownedRating c .screen
  | st, am => if demists st am then ownedRating c .screen * c.filmShare / 100 else 0

/-- CAB screen part of a state and acting mode (R52). -/
def partFor (c : Settings) : ScreenState → Option ActingMode → Nat
  | .defrost, _ => c.qDefrost
  | st, am => if demists st am then c.qDemist else 0

/-- The screen record after device reset (R67). -/
def ScreenRec.reset (c : Settings) : ScreenRec :=
  let am := some (actingFor c.fallbackOutside)
  { tcab := c.baseSetpoint[0]
    tcabSource := .setpoint
    rh := none
    tg := none
    tgQuality := .missing
    rhQuality := .missing
    dew := none
    margin := none
    state := .failsafe
    acting := am
    flap := flapFor .failsafe am
    airRequest := requestFor .failsafe am
    exitHold := none
    origin := .none
    duration := c.defrostDuration
    defrostTimer := none
    glassHold := none
    lastEnd := .none
    coldDecision := .pending
    filmLatch := false
    filmPosted := filmFor c .failsafe am
    partPosted := partFor c .failsafe am
    mWatch := c.mWatch
    mOn := c.mOn }

/-- An input record after device reset: the raw level is read at the end of reset (R70, R91). -/
def InputRec.reset (now : Nat) (raw : PinLevel) : InputRec :=
  { raw, stableSince := now, filtered := .unsettled }

/-- A door record after device reset (R90). -/
def DoorRec.reset (c : Settings) (d : DoorNo) : DoorRec where
  state := .closed
  openStart := none
  dwell := 0
  level := 0
  vclose := none
  decayTime := none
  decayRemaining := none
  decayTimer := none
  ring := []
  curtainHeat := 0
  curtainBlower := .off
  trailingTimer := none
  heldTimer := none
  inUse := c.inputs[d.val].enable
  secondsCounted := 0
  contribution := Vector.replicate 6 0

/-- The Door Draft Controller after device reset (R90). -/
def DoorController.reset (c : Settings) (now : Nat) : DoorController where
  doors := Vector.ofFn (DoorRec.reset c)
  tick := some (now + Config.doorTickPeriod)

/-- The override table after device reset (R167). -/
def OverrideTable.reset : OverrideTable where
  slots := Vector.replicate 16 none
  running := 0

/-- A member record after device reset (R115). -/
def MemberRec.reset : MemberRec :=
  { posted := 0, demand := 0, held := 0, grant := 0 }

/-- A class record after device reset (R115). -/
def ClassRec.reset : ClassRec :=
  { demand := 0, held := 0, reserve := 0, grant := 0, short := false, timer := none }

/-- The surplus record with no window open (R108, R115). -/
def SurplusRec.closed : SurplusRec where
  isOpen := false
  offered := 0
  accepted := 0
  endTime := none
  absorbed := Vector.replicate 24 0

/-- The Power Allocator after device reset (R115). -/
def PowerAllocator.reset (now : Nat) : PowerAllocator where
  line := .dewired
  gapStart := none
  preGapDraw := 0
  dewireTimer := none
  envelope := 0
  envState := .none
  envTimer := some (now + Config.envelopeHold)
  ceiling := 0
  ceilingActive := false
  stepTimer := none
  members := Vector.replicate 18 MemberRec.reset
  classes := Vector.replicate 4 ClassRec.reset
  surplus := SurplusRec.closed
  allocTimer := some (now + Config.allocationPeriod)
  drawTimer := some (now + Config.drawPeriod)

/-- An element record that starts from nothing, in the state given (R135, R188). -/
def ElemRec.fresh (st : ElemState) : ElemRec where
  state := st
  lockout := none
  autoReleases := 0
  lockoutTimer := none
  closed := false
  granted := 0
  duty := 0
  draw := 0
  applied := none
  overheat := false
  mismatch := 0
  closedSince := none
  openedSince := none

/-- An element record after device reset: each contactor counts as opened at the end of reset (R135). -/
def ElemRec.reset (c : Settings) (now : Nat) (i : SlotNo) : ElemRec :=
  if c.slots[i].present then
    { ElemRec.fresh .inService with
      openedSince := if c.slots[i].kind = .contactor then some now else none }
  else ElemRec.fresh .absent

/-- The Element Stager after device reset: a period starts with the marks high (R126, R135). -/
def ElementStager.reset (c : Settings) (now : Nat) : ElementStager where
  elems := Vector.ofFn (ElemRec.reset c now)
  queue := []
  slotCounter := 0
  slotLength := c.slotLength
  markLength := c.markLength
  slotTimer := some (now + c.slotLength)
  pmf := true
  pmr := true

/-- The empty link-error latch. -/
def LinkErrors.empty : LinkErrors :=
  { check := false, length := false, kind := false, timeout := false, late := false }

/-- A link context after device reset, before its first order is sent (R151). -/
def LinkCtx.reset (c : Settings) (now : Nat) : LinkCtx where
  state := .down
  validRun := 0
  lastValid := none
  silenceTimer := none
  window := []
  nextNumber := 0
  orderTimer := some (now + c.orderInterval)
  spacingTimer := none
  pendingMarker := true
  echoMiss := 0
  frameErrors := 0
  errorWindow := []
  latch := LinkErrors.empty
  lateEchoes := 0
  restarts := 0
  lastRestart := none
  lostTime := none
  heldDraw := 0
  heldTimer := none
  lastOrder := []

/-- Both link contexts after device reset. -/
def LinkController.reset (c : Settings) (now : Nat) : LinkController :=
  { front := LinkCtx.reset c now, rear := LinkCtx.reset c now }

/-- A counter after device reset (R185). -/
def CounterRec.reset : CounterRec where
  value := 0
  overflow := false
  frozen := false
  counted := false
  setup := { event := .energy, mask := 0xFF, threshold := 0, mode := .count,
             freezeOnOverflow := false, enable := false }

/-- The bit of a notice in a status set or a mask (R191). -/
def Notice.bit (c : Notice) : BitVec 20 :=
  1#20 <<< c.code

/-- A set of notices as a bit mask. -/
def noticeSet (l : List Notice) : BitVec 20 :=
  l.foldl (fun acc c => acc ||| c.bit) 0

/-- The default notice masks (R178). -/
def defaultMask : Port → BitVec 20
  | .desk => noticeSet [.demistActive, .defrostDone, .doorHeld, .zoneDegraded, .nodeLost,
      .overrideEvicted, .overrideExpired]
  | .power => noticeSet [.gapBegin, .gapEnd, .dewired, .envelopeLapsed, .surplusEnd, .shortfall,
      .nodeLost, .elementLockout]
  | .service => BitVec.allOnes 20

/-- A port context after device reset (R179). -/
def PortCtx.reset (p : Port) : PortCtx where
  receiver := .hunt
  frame := []
  lastChar := 0
  link := .unlinked
  lastGood := none
  linkTimer := none
  frameErrors := 0
  overruns := 0
  replies := []
  notices := 0
  mask := defaultMask p
  globalEnable := true
  attention := false

/-- The three port contexts after device reset. -/
def PortUnit.reset : PortUnit where
  desk := PortCtx.reset .desk
  power := PortCtx.reset .power
  service := PortCtx.reset .service

end Sys2Proof.Machine
end

