-- ==== Sys2Proof/Machine/State.lean ====
section
/-! DEFINITION. The state of the block, why a step can stop, and the state right after device reset. -/

namespace Sys2Proof.Machine

/-- No command of the 2610 stops the machine: every rule gives an effect or a refusing reply, so there
is no fault to name. -/
inductive Fault
  deriving DecidableEq, Repr

/-- Why a command has no outcome. -/
inductive Refusal where
  /-- Raised by the dispatch for a command that has no meaning yet; safe, since nothing can be proved
  of it. No arm raises it now. -/
  | notModelled (mnemonic : String)
  deriving DecidableEq, Repr

end Sys2Proof.Machine

namespace Sys2Proof.Machine

/-- The state of the 2610: the 1 ms time base, one record per block, the queue of waiting commands
(first in, first out) and the counter that numbers the free values taken so far. -/
structure State where
  now : Nat
  st : SampleTable
  zr : ZoneRegulator
  sc : ScreenRec
  ic : Vector InputRec 6
  ddc : DoorController
  ot : OverrideTable
  pa : PowerAllocator
  es : ElementStager
  nlc : LinkController
  ac : Vector CounterRec 8
  cs : ConfigStore
  mpu : PortUnit
  freeCount : Nat
  pending : List Instr
  deriving DecidableEq, Repr

/-- The working configuration in force. -/
abbrev State.cfg (s : State) : Settings :=
  s.cs.work

/-- The links after reset have sent order 0 with every output off (R151, R190): the carried levels of
the default installation's slots on a node, a contactor carrying phase 0 (R195). -/
def State.resetLevels (n : Node) : List CarriedLevel :=
  ((rowsV factory.slots).filter fun r => r.2.present && r.2.node == n).map fun r =>
    { slot := r.1, level := 0, phase := if r.2.kind = .contactor then 0 else r.2.phase }

/-- A link that has just sent order 0, `body` being the frame's body. -/
def State.resetLink (n : Node) (body : List Byte) : LinkCtx :=
  { LinkCtx.reset factory 0 with
    window := [{ number := 0, sentAt := 0, timeout := 50, levels := State.resetLevels n }]
    nextNumber := 1
    orderTimer := some 100
    spacingTimer := some 20
    pendingMarker := false
    lastOrder := frameBytes 0x40 0x00 body }

/-- The machine right after device reset with a non-volatile copy that fails its check, so that the
factory defaults are loaded and CONFIG-DEFAULTED is raised (R190; that the copy fails, that the time
base stands at 0 and that every pin is LOW are DESIGN CHOICE, unsafe: notes/assumptions/8.md). The Screen
Controller has posted 15 and 20 HS (R67), the pass of that posting found the SCREEN class short of its
35 HS (R100, R107), and each link has sent order 0 (R151). -/
def State.reset : State where
  now := 0
  st := SampleTable.reset factory
  zr := ZoneRegulator.reset factory 0
  sc := ScreenRec.reset factory
  ic := Vector.replicate 6 (InputRec.reset 0 .low)
  ddc := DoorController.reset factory 0
  ot := OverrideTable.reset
  pa :=
    { PowerAllocator.reset 0 with
      members := ((PowerAllocator.reset 0).members.set 0
        { posted := 15, demand := 15, held := 0, grant := 0 }).set 1
        { posted := 20, demand := 20, held := 0, grant := 0 }
      classes := (PowerAllocator.reset 0).classes.set 0
        { demand := 35, held := 0, reserve := 0, grant := 0, short := true, timer := some 30000 } }
  es := ElementStager.reset factory 0
  nlc :=
    { front := State.resetLink .front
        [0x00, 0x00, 0x80, 0x08, 0x00, 0x00, 0x00, 0x00, 0x80, 0x20, 0x00, 0x00, 0x00, 0x00,
         0x80, 0x38, 0x80, 0x00, 0x80, 0x08, 0x80, 0x20, 0x00, 0x00, 0x00, 0x00, 0x00, 0x00,
         0x00, 0x00, 0x00, 0x00, 0x03, 0x00, 0x00, 0x00, 0x00, 0x4B, 0x02]
      rear := State.resetLink .rear
        [0x00, 0x00, 0x80, 0x08, 0x00, 0x00, 0x00, 0x00, 0x80, 0x20, 0x00, 0x00, 0x00, 0x00,
         0x80, 0x38, 0x80, 0x10, 0x80, 0x18, 0x00, 0x00, 0x00, 0x00, 0x00, 0x00, 0x00, 0x00,
         0x00, 0x00, 0x00, 0x00, 0x00, 0x00, 0x00, 0x00, 0x00, 0x14, 0x00] }
  ac := Vector.replicate 8 CounterRec.reset
  cs :=
    { work := factory, storeState := .idle, snapshot := none, lastStore := .none,
      load := .defaulted, nonVolatile := factory, nonVolatileGood := false, storeStart := 0 }
  mpu :=
    { desk := { PortCtx.reset .desk with notices := Notice.configDefaulted.bit }
      power := { PortCtx.reset .power with notices := Notice.configDefaulted.bit }
      service := { PortCtx.reset .service with
        notices := Notice.configDefaulted.bit, attention := true } }
  freeCount := 0
  pending := []

end Sys2Proof.Machine
end

