-- ==== Sys2Proof/Machine/Ops.lean ====
section
/-! DEFINITION. The named operations over the records of State: timers, and reading and changing one row
of one record. Every meaning reads and writes State through these. -/

namespace Sys2Proof.Machine

/-! ### Timers -/

/-- A timer expires when its duration has elapsed since its start; a stopped one does not expire.
DESIGN CHOICE, unsafe: notes/assumptions/7.md. -/
def due (t : Timer) (now : Nat) : Bool :=
  match t with
  | some e => decide (e ≤ now)
  | none => false

/-- A timer started now with a duration in ms. -/
def State.after (s : State) (ms : Nat) : Timer :=
  some (s.now + ms)

/-- Time left to an expiry, none while the timer is stopped. -/
def State.left (s : State) (t : Timer) : Option Nat :=
  t.map fun e => e - s.now

/-- Time since a moment, none when there was none. -/
def State.since (s : State) (t : Option Nat) : Option Nat :=
  t.map fun m => s.now - m

/-! ### Ports -/

def PortUnit.get (u : PortUnit) : Port → PortCtx
  | .desk => u.desk
  | .power => u.power
  | .service => u.service

def PortUnit.modify (u : PortUnit) (p : Port) (f : PortCtx → PortCtx) : PortUnit :=
  match p with
  | .desk => { u with desk := f u.desk }
  | .power => { u with power := f u.power }
  | .service => { u with service := f u.service }

/-- The context of a port. -/
def State.port (s : State) (p : Port) : PortCtx :=
  s.mpu.get p

/-- Change the context of a port. -/
def State.modPort (s : State) (p : Port) (f : PortCtx → PortCtx) : State :=
  { s with mpu := s.mpu.modify p f }

/-! ### Links -/

def LinkController.get (u : LinkController) : Node → LinkCtx
  | .front => u.front
  | .rear => u.rear

def LinkController.modify (u : LinkController) (n : Node) (f : LinkCtx → LinkCtx) :
    LinkController :=
  match n with
  | .front => { u with front := f u.front }
  | .rear => { u with rear := f u.rear }

/-- The link context of a node. -/
def State.link (s : State) (n : Node) : LinkCtx :=
  s.nlc.get n

/-- Change the link context of a node. -/
def State.modLink (s : State) (n : Node) (f : LinkCtx → LinkCtx) : State :=
  { s with nlc := s.nlc.modify n f }

/-! ### Sample Table -/

def SampleTable.get (t : SampleTable) : ValueId → ValueRec
  | .air z => t.air[z]
  | .outside .front => t.outsideFront
  | .outside .rear => t.outsideRear
  | .glass => t.glass
  | .humidity => t.humidity

def SampleTable.modify (t : SampleTable) (v : ValueId) (f : ValueRec → ValueRec) : SampleTable :=
  match v with
  | .air z => { t with air := updV t.air z f }
  | .outside .front => { t with outsideFront := f t.outsideFront }
  | .outside .rear => { t with outsideRear := f t.outsideRear }
  | .glass => { t with glass := f t.glass }
  | .humidity => { t with humidity := f t.humidity }

/-- The record of a value. -/
def State.value (s : State) (v : ValueId) : ValueRec :=
  s.st.get v

/-- Change the record of a value. -/
def State.modValue (s : State) (v : ValueId) (f : ValueRec → ValueRec) : State :=
  { s with st := s.st.modify v f }

/-- The ten values, in the order of chapter 1.4's table. -/
def allValues : List ValueId :=
  [.air 0, .air 1, .air 2, .outside .front, .glass, .humidity, .air 3, .air 4, .air 5,
   .outside .rear]

/-! ### Zones and section air -/

/-- The record of a zone. -/
def State.zone (s : State) (z : ZoneNo) : ZoneRec :=
  s.zr.zones[z]

/-- Change the record of a zone. -/
def State.modZone (s : State) (z : ZoneNo) (f : ZoneRec → ZoneRec) : State :=
  { s with zr := { s.zr with zones := updV s.zr.zones z f } }

/-- Change every zone record. -/
def State.mapZones (s : State) (f : ZoneRec → ZoneRec) : State :=
  { s with zr := { s.zr with zones := mapV f s.zr.zones } }

/-- The air record of a section. -/
def State.air (s : State) : Node → AirRec
  | .front => s.zr.airFront
  | .rear => s.zr.airRear

/-- The section of a zone (R3). -/
def sectionOf (z : ZoneNo) : Node :=
  if z.val < 3 then .front else .rear

/-- All zones in zone-number order (R3). -/
def allZones : List ZoneNo :=
  List.finRange 6

/-! ### Screen -/

/-- Change the screen record. -/
def State.modScreen (s : State) (f : ScreenRec → ScreenRec) : State :=
  { s with sc := f s.sc }

/-! ### Inputs and doors -/

/-- The record of an input. -/
def State.input (s : State) (i : InputNo) : InputRec :=
  s.ic[i]

/-- Change the record of an input. -/
def State.modInput (s : State) (i : InputNo) (f : InputRec → InputRec) : State :=
  { s with ic := updV s.ic i f }

/-- Index of REL and of LINE among the inputs (R193). -/
def relInput : InputNo := 4
def lineInput : InputNo := 5

/-- The DR input of a door. -/
def drInput (d : DoorNo) : InputNo :=
  ⟨d.val, by omega⟩

/-- The record of a door. -/
def State.door (s : State) (d : DoorNo) : DoorRec :=
  s.ddc.doors[d]

/-- Change the record of a door. -/
def State.modDoor (s : State) (d : DoorNo) (f : DoorRec → DoorRec) : State :=
  { s with ddc := { s.ddc with doors := updV s.ddc.doors d f } }

/-- All doors, door 1 first. -/
def allDoors : List DoorNo :=
  List.finRange 4

/-- The node that carries a door's curtain blower (R138). -/
def doorNode (d : DoorNo) : Node :=
  if d.val < 2 then .front else .rear

/-! ### Power Allocator -/

/-- A member record of the demand table. -/
def State.member (s : State) (m : Fin 18) : MemberRec :=
  s.pa.members[m]

/-- Change a member record. -/
def State.modMember (s : State) (m : Fin 18) (f : MemberRec → MemberRec) : State :=
  { s with pa := { s.pa with members := updV s.pa.members m f } }

/-- Change every member record, given its number. -/
def State.tabMembers (s : State) (f : Fin 18 → MemberRec → MemberRec) : State :=
  { s with pa := { s.pa with members := Vector.ofFn fun m => f m s.pa.members[m] } }

/-- A class record. -/
def State.class (s : State) (c : HeatClass) : ClassRec :=
  s.pa.classes[c.index]

/-- Change a class record. -/
def State.modClass (s : State) (c : HeatClass) (f : ClassRec → ClassRec) : State :=
  { s with pa := { s.pa with classes := updV s.pa.classes c.index f } }

/-- The classes in priority order (R98). -/
def allClasses : List HeatClass :=
  [.screen, .cab, .door, .saloon]

/-- The film and screen-part members (R98). -/
def filmMember : Fin 18 := 0
def screenPartMember : Fin 18 := 1

/-- The curtain member of a door (R98). -/
def curtainMember (d : DoorNo) : Fin 18 :=
  ⟨3 + d.val, by omega⟩

/-- The door-part member of a zone (R98). -/
def doorMember (z : ZoneNo) : Fin 18 :=
  ⟨7 + z.val, by omega⟩

/-- The base member of a zone: member 2 for CAB, 13 to 17 for the others (R98). -/
def baseMember (z : ZoneNo) : Fin 18 :=
  if z.val = 0 then 2 else ⟨12 + z.val, by omega⟩

/-- The zone whose base member this is (R98). -/
def baseZone? (m : Fin 18) : Option ZoneNo :=
  if m.val = 2 then some 0
  else if h : 13 ≤ m.val then some ⟨m.val - 12, by omega⟩
  else none

/-- The class of a member (R98). -/
def memberClass (m : Fin 18) : HeatClass :=
  if m.val < 2 then .screen
  else if m.val = 2 then .cab
  else if m.val < 13 then .door
  else .saloon

/-- The members of a class, in member order. -/
def classMembers (c : HeatClass) : List (Fin 18) :=
  (List.finRange 18).filter fun m => memberClass m == c

/-- Change the surplus record. -/
def State.modSurplus (s : State) (f : SurplusRec → SurplusRec) : State :=
  { s with pa := { s.pa with surplus := f s.pa.surplus } }

/-- The absorbed amount of a slot (R108). -/
def State.absorbed (s : State) (i : SlotNo) : Nat :=
  s.pa.surplus.absorbed[i]

/-- Set the absorbed amount of a slot. -/
def State.setAbsorbed (s : State) (i : SlotNo) (a : Nat) : State :=
  s.modSurplus fun r => { r with absorbed := updV r.absorbed i fun _ => a }

/-! ### Element Stager -/

/-- The configuration fields of a slot. -/
def State.slot (s : State) (i : SlotNo) : SlotCfg :=
  s.cfg.slots[i]

/-- The element record of a slot. -/
def State.elem (s : State) (i : SlotNo) : ElemRec :=
  s.es.elems[i]

/-- Change the element record of a slot. -/
def State.modElem (s : State) (i : SlotNo) (f : ElemRec → ElemRec) : State :=
  { s with es := { s.es with elems := updV s.es.elems i f } }

/-- Replace the closure queue. -/
def State.setQueue (s : State) (q : List SlotNo) : State :=
  { s with es := { s.es with queue := q } }

/-- All slots in slot order. -/
def allSlots : List SlotNo :=
  List.finRange 24

/-! ### Override table -/

/-- The entry of a slot of the override table. -/
def State.entry (s : State) (e : EntryNo) : Option Entry :=
  s.ot.slots[e]

/-- Put an entry into a slot, or empty it. -/
def State.setEntry (s : State) (e : EntryNo) (x : Option Entry) : State :=
  { s with ot := { s.ot with slots := updV s.ot.slots e fun _ => x } }

/-- Change every held entry, given its slot. -/
def State.mapEntries (s : State) (f : Entry → Entry) : State :=
  { s with ot := { s.ot with slots := mapV (fun x => x.map f) s.ot.slots } }

/-- The held entries with their slots, lowest slot first. -/
def State.entries (s : State) : List (EntryNo × Entry) :=
  (rowsV s.ot.slots).filterMap fun r => r.2.map fun x => (r.1, x)

/-! ### Free values -/

/-- Advance the counter that numbers the free values taken. -/
def State.tookFree (s : State) : State :=
  { s with freeCount := s.freeCount + 1 }

end Sys2Proof.Machine
end

