-- ==== Sys2Proof/Machine/Flags.lean ====
section
/-! DEFINITION. The notices with the attention lines (R175, R176) and the counted events (R181 to R183):
every raise of a notice and every signal to the counters goes through here. -/

namespace Sys2Proof.Machine

/-! ### Notices -/

/-- The level of the attention line that R176 gives: on while the global enable is on and a condition
is both set and in the mask. -/
def PortCtx.lineLevel (p : PortCtx) : Bool :=
  p.globalEnable && (p.notices &&& p.mask) != 0

/-- Recompute the attention line (R176). -/
def PortCtx.attend (p : PortCtx) : PortCtx :=
  { p with attention := p.lineLevel }

/-- Set a notice in a port's status set and recompute its line (R175). -/
def PortCtx.notice (c : Notice) (p : PortCtx) : PortCtx :=
  PortCtx.attend { p with notices := p.notices ||| c.bit }

/-- Raise a condition: its flag is set in the status sets of all three ports (R175). -/
def State.raise (s : State) (c : Notice) : State :=
  { s with mpu :=
    { desk := s.mpu.desk.notice c, power := s.mpu.power.notice c,
      service := s.mpu.service.notice c } }

/-- Raise PORT-LOST in the sets of the two ports other than the silent one (R170, R175). -/
def State.raisePortLost (s : State) (silent : Port) : State :=
  { s with mpu :=
    { desk := if silent = .desk then s.mpu.desk else s.mpu.desk.notice .portLost
      power := if silent = .power then s.mpu.power else s.mpu.power.notice .portLost
      service := if silent = .service then s.mpu.service else s.mpu.service.notice .portLost } }

/-- Raise a condition when a test holds. -/
def State.raiseIf (s : State) (b : Bool) (c : Notice) : State :=
  if b then s.raise c else s

/-! ### Activity counters -/

/-- Counter values wrap at 2^32 (R183). -/
def counterModulus : Nat := 4294967296

/-- Whether a counter takes an occurrence of an event (R182). -/
def CounterRec.takes (k : CounterRec) (ev : CountedEvent) : Bool :=
  k.setup.event == ev && k.setup.enable && !k.frozen

/-- Whether the taking counter finds the occurrence counted: the qualifier matches the mask, and the
quantity is at least the threshold (R182). An event with no qualifier matches any mask (R181). -/
def CounterRec.counts (k : CounterRec) (qual : Option Nat) (qty : Nat) : Bool :=
  (match qual with
   | none => true
   | some q => k.setup.mask.getLsbD q) && decide (k.setup.threshold ≤ qty)

/-- By how much an occurrence raises the counter (R182). -/
def CounterRec.raiseBy (k : CounterRec) (qual : Option Nat) (qty : Nat) : Nat :=
  if k.counts qual qty then
    match k.setup.mode with
    | .count => 1
    | .sum => qty
    | .edge => if k.counted then 0 else 1
  else 0

/-- Whether an occurrence wraps the counter (R183). -/
def CounterRec.wraps (k : CounterRec) (ev : CountedEvent) (qual : Option Nat) (qty : Nat) : Bool :=
  k.takes ev && decide (counterModulus ≤ k.value + k.raiseBy qual qty)

/-- A counter after an occurrence, its freeze state apart (R182, R183). -/
def CounterRec.occur (k : CounterRec) (ev : CountedEvent) (qual : Option Nat) (qty : Nat) :
    CounterRec :=
  if k.takes ev then
    { k with
      value :=
        if k.wraps ev qual qty then k.value + k.raiseBy qual qty - counterModulus
        else k.value + k.raiseBy qual qty
      overflow := k.overflow || k.wraps ev qual qty
      counted := if k.setup.mode = .edge then k.counts qual qty else k.counted }
  else k

/-- Signal one occurrence of an event to all eight counters: each takes it, a wrap raises
COUNTER-OVERFLOW, and a wrap with freeze-on-overflow freezes all eight (R182, R183). -/
def State.signal (s : State) (ev : CountedEvent) (qual : Option Nat) (qty : Nat) : State :=
  let wrapped := s.ac.toList.any fun k => k.wraps ev qual qty
  let freeze := s.ac.toList.any fun k => k.wraps ev qual qty && k.setup.freezeOnOverflow
  let counters := mapV (fun k =>
    let k' := k.occur ev qual qty
    if freeze then { k' with frozen := true } else k') s.ac
  State.raiseIf { s with ac := counters } wrapped .counterOverflow

/-- Signal FORCED-SHED with the number of contactors, when it is not 0 (R92, R118, R143). -/
def State.signalSheds (s : State) (n : Nat) : State :=
  if n = 0 then s else s.signal .forcedShed none n

end Sys2Proof.Machine
end

