-- ==== Sys2Proof/Machine/Items.lean ====
section
/-! DEFINITION. The configuration items of R186: their numbers and indexes, reading and writing one in the
working configuration, its range, and the checks of R187. -/

namespace Sys2Proof.Machine

/-- Input index of a door input (R193). -/
def doorInputNo (i : Fin 5) : InputNo :=
  ⟨i.val, by omega⟩

/-- The items of the working configuration with their indexes, in item order (R186; item 0, the store
record, is read only and stands apart). -/
inductive Item where
  | sensorHold
  | sensorDegrade
  | fallbackOutside
  | weight (d : DoorNo) (z : ZoneNo)
  | presence (i : SlotNo)
  | node (i : SlotNo)
  | output (i : SlotNo)
  | owner (i : SlotNo)
  | kind (i : SlotNo)
  | rating (i : SlotNo)
  | phase (i : SlotNo)
  | regPeriod
  | baseSetpoint (z : ZoneNo)
  | kp
  | ki
  | kf
  | kv
  | imax
  | fallbackBias
  | freshCold
  | freshMild
  | demistFloor
  | mWatch
  | mOn
  | mOff
  | demistHold
  | filmShare
  | qDemist
  | qDefrost
  | defrostDuration
  | glassTarget
  | glassLimit
  | coldStart
  | enable (i : InputNo)
  | polarity (i : InputNo)
  | width (i : Fin 5)
  | bd (d : DoorNo)
  | heldLimit
  | trailingTime
  | curtainThreshold
  | heldShare
  | dropFilter
  | restoreFilter
  | dewireThreshold
  | fallbackEnvelope
  | restoreRamp
  | quota (k : Fin 4)
  | shortfallNotice
  | absorbBand
  | minOn
  | minOff
  | slotLength
  | markLength
  | orderInterval
  | windowSize
  | echoTimeout
  | nodeSilence
  | group (g : Fin 8)
  | driverExpiry
  deriving DecidableEq, Repr

/-- Members of a target group as a zone mask: groups 0 to 3 are fixed, 4 to 7 programmable (R154). -/
def Settings.groupMask (c : Settings) (g : Fin 8) : BitVec 6 :=
  match g.val with
  | 0 => 0b111111#6
  | 1 => 0b111110#6
  | 2 => 0b000111#6
  | 3 => 0b111000#6
  | 4 => c.groups[0]
  | 5 => c.groups[1]
  | 6 => c.groups[2]
  | _ => c.groups[3]

/-- Write the members of a programmable group; groups 0 to 3 do not change (R154). -/
def Settings.putGroup (c : Settings) (g : Fin 8) (v : Int) : Settings :=
  if h : 4 ≤ g.val then
    { c with groups := updV c.groups ⟨g.val - 4, by omega⟩ fun _ => BitVec.ofInt 6 v }
  else c

/-- An index within a table of `n` rows. -/
def index? (n idx : Nat) : Option (Fin n) :=
  if h : idx < n then some ⟨idx, h⟩ else none

/-- A door-to-zone weight takes the index (door − 1) × 6 + zone (R193). -/
def weightItem? (idx : Nat) : Option Item :=
  if h : idx < 24 then some (.weight ⟨idx / 6, by omega⟩ ⟨idx % 6, by omega⟩) else none

/-- Bd takes the index door 1 to 4 (R186). -/
def boostItem? (idx : Nat) : Option Item :=
  if h : 1 ≤ idx ∧ idx ≤ 4 then some (.bd ⟨idx - 1, by omega⟩) else none

/-- The item that an item number and an index name; none for a number that names no item, for item 0
and for an index outside the item's index range (R187). An item without an index does not look at the
index. -/
def Item.ofCodes? (number idx : Nat) : Option Item :=
  match number with
  | 1 => some .sensorHold
  | 2 => some .sensorDegrade
  | 3 => some .fallbackOutside
  | 4 => weightItem? idx
  | 10 => (index? 24 idx).map .presence
  | 11 => (index? 24 idx).map .node
  | 12 => (index? 24 idx).map .output
  | 13 => (index? 24 idx).map .owner
  | 14 => (index? 24 idx).map .kind
  | 15 => (index? 24 idx).map .rating
  | 16 => (index? 24 idx).map .phase
  | 20 => some .regPeriod
  | 21 => (index? 6 idx).map .baseSetpoint
  | 22 => some .kp
  | 23 => some .ki
  | 24 => some .kf
  | 25 => some .kv
  | 26 => some .imax
  | 27 => some .fallbackBias
  | 28 => some .freshCold
  | 29 => some .freshMild
  | 30 => some .demistFloor
  | 40 => some .mWatch
  | 41 => some .mOn
  | 42 => some .mOff
  | 43 => some .demistHold
  | 44 => some .filmShare
  | 45 => some .qDemist
  | 46 => some .qDefrost
  | 47 => some .defrostDuration
  | 48 => some .glassTarget
  | 49 => some .glassLimit
  | 50 => some .coldStart
  | 60 => (index? 6 idx).map .enable
  | 61 => (index? 6 idx).map .polarity
  | 62 => (index? 5 idx).map .width
  | 63 => boostItem? idx
  | 64 => some .heldLimit
  | 65 => some .trailingTime
  | 66 => some .curtainThreshold
  | 67 => some .heldShare
  | 70 => some .dropFilter
  | 71 => some .restoreFilter
  | 72 => some .dewireThreshold
  | 73 => some .fallbackEnvelope
  | 74 => some .restoreRamp
  | 75 => (index? 4 idx).map .quota
  | 76 => some .shortfallNotice
  | 77 => some .absorbBand
  | 80 => some .minOn
  | 81 => some .minOff
  | 82 => some .slotLength
  | 83 => some .markLength
  | 90 => some .orderInterval
  | 91 => some .windowSize
  | 92 => some .echoTimeout
  | 93 => some .nodeSilence
  | 100 => (index? 8 idx).map .group
  | 101 => some .driverExpiry
  | _ => none

/-- Every item, in item order. -/
def allItems : List Item :=
  [.sensorHold, .sensorDegrade, .fallbackOutside] ++
  ((List.finRange 4).flatMap fun d => (List.finRange 6).map (Item.weight d)) ++
  ((List.finRange 24).map Item.presence) ++
  ((List.finRange 24).map Item.node) ++
  ((List.finRange 24).map Item.output) ++
  ((List.finRange 24).map Item.owner) ++
  ((List.finRange 24).map Item.kind) ++
  ((List.finRange 24).map Item.rating) ++
  ((List.finRange 24).map Item.phase) ++
  [.regPeriod] ++
  ((List.finRange 6).map Item.baseSetpoint) ++
  [.kp, .ki, .kf, .kv, .imax, .fallbackBias, .freshCold, .freshMild, .demistFloor, .mWatch, .mOn, .mOff, .demistHold, .filmShare, .qDemist, .qDefrost, .defrostDuration, .glassTarget, .glassLimit, .coldStart] ++
  ((List.finRange 6).map Item.enable) ++
  ((List.finRange 6).map Item.polarity) ++
  ((List.finRange 5).map Item.width) ++
  ((List.finRange 4).map Item.bd) ++
  [.heldLimit, .trailingTime, .curtainThreshold, .heldShare, .dropFilter, .restoreFilter, .dewireThreshold, .fallbackEnvelope, .restoreRamp] ++
  ((List.finRange 4).map Item.quota) ++
  [.shortfallNotice, .absorbBand, .minOn, .minOff, .slotLength, .markLength, .orderInterval, .windowSize, .echoTimeout, .nodeSilence] ++
  ((List.finRange 8).map Item.group) ++
  [.driverExpiry]

/-- The working value of an item, coded as in SET-CONFIG (R186, R193). -/
def Settings.get (c : Settings) : Item → Int
  | .sensorHold => c.sensorHold
  | .sensorDegrade => c.sensorDegrade
  | .fallbackOutside => c.fallbackOutside
  | .weight d z => c.weights[d][z]
  | .presence i => c.slots[i].present.toNat
  | .node i => c.slots[i].node.code
  | .output i => c.slots[i].output
  | .owner i => c.slots[i].owner.code
  | .kind i => c.slots[i].kind.code
  | .rating i => c.slots[i].rating
  | .phase i => c.slots[i].phase
  | .regPeriod => c.regPeriod
  | .baseSetpoint z => c.baseSetpoint[z]
  | .kp => c.kp
  | .ki => c.ki
  | .kf => c.kf
  | .kv => c.kv
  | .imax => c.imax
  | .fallbackBias => c.fallbackBias
  | .freshCold => c.freshCold
  | .freshMild => c.freshMild
  | .demistFloor => c.demistFloor
  | .mWatch => c.mWatch
  | .mOn => c.mOn
  | .mOff => c.mOff
  | .demistHold => c.demistHold
  | .filmShare => c.filmShare
  | .qDemist => c.qDemist
  | .qDefrost => c.qDefrost
  | .defrostDuration => c.defrostDuration
  | .glassTarget => c.glassTarget
  | .glassLimit => c.glassLimit
  | .coldStart => c.coldStart.toNat
  | .enable i => c.inputs[i].enable.toNat
  | .polarity i => (if c.inputs[i].activeHigh then 0 else 1)
  | .width i => c.inputs[i.val].width
  | .bd d => c.bd[d]
  | .heldLimit => c.heldLimit
  | .trailingTime => c.trailingTime
  | .curtainThreshold => c.curtainThreshold
  | .heldShare => c.heldShare
  | .dropFilter => c.dropFilter
  | .restoreFilter => c.restoreFilter
  | .dewireThreshold => c.dewireThreshold
  | .fallbackEnvelope => c.fallbackEnvelope
  | .restoreRamp => c.restoreRamp
  | .quota k => c.quota[k]
  | .shortfallNotice => c.shortfallNotice
  | .absorbBand => c.absorbBand
  | .minOn => c.minOn
  | .minOff => c.minOff
  | .slotLength => c.slotLength
  | .markLength => c.markLength
  | .orderInterval => c.orderInterval
  | .windowSize => c.windowSize
  | .echoTimeout => c.echoTimeout
  | .nodeSilence => c.nodeSilence
  | .group g => (c.groupMask g).toNat
  | .driverExpiry => c.driverExpiry

/-- The configuration with one item given a value that has passed the checks of R187. -/
def Settings.put (c : Settings) (it : Item) (v : Int) : Settings :=
  match it with
  | .sensorHold => { c with sensorHold := v.toNat }
  | .sensorDegrade => { c with sensorDegrade := v.toNat }
  | .fallbackOutside => { c with fallbackOutside := v }
  | .weight d z => { c with weights := updV c.weights d fun r => updV r z fun _ => v.toNat }
  | .presence i => { c with slots := updV c.slots i fun r => { r with present := v == 1 } }
  | .node i => { c with slots := updV c.slots i fun r => { r with node := (Node.ofCode? v.toNat).getD r.node } }
  | .output i => { c with slots := updV c.slots i fun r => { r with output := v.toNat } }
  | .owner i => { c with slots := updV c.slots i fun r => { r with owner := (Owner.ofCode? v.toNat).getD r.owner } }
  | .kind i => { c with slots := updV c.slots i fun r => { r with kind := (ElemKind.ofCode? v.toNat).getD r.kind } }
  | .rating i => { c with slots := updV c.slots i fun r => { r with rating := v.toNat } }
  | .phase i => { c with slots := updV c.slots i fun r => { r with phase := v.toNat } }
  | .regPeriod => { c with regPeriod := v.toNat }
  | .baseSetpoint z => { c with baseSetpoint := updV c.baseSetpoint z fun _ => v }
  | .kp => { c with kp := v.toNat }
  | .ki => { c with ki := v.toNat }
  | .kf => { c with kf := v.toNat }
  | .kv => { c with kv := v.toNat }
  | .imax => { c with imax := v.toNat }
  | .fallbackBias => { c with fallbackBias := v.toNat }
  | .freshCold => { c with freshCold := v.toNat }
  | .freshMild => { c with freshMild := v.toNat }
  | .demistFloor => { c with demistFloor := v.toNat }
  | .mWatch => { c with mWatch := v }
  | .mOn => { c with mOn := v }
  | .mOff => { c with mOff := v }
  | .demistHold => { c with demistHold := v.toNat }
  | .filmShare => { c with filmShare := v.toNat }
  | .qDemist => { c with qDemist := v.toNat }
  | .qDefrost => { c with qDefrost := v.toNat }
  | .defrostDuration => { c with defrostDuration := v.toNat }
  | .glassTarget => { c with glassTarget := v }
  | .glassLimit => { c with glassLimit := v }
  | .coldStart => { c with coldStart := v == 1 }
  | .enable i => { c with inputs := updV c.inputs i fun r => { r with enable := v == 1 } }
  | .polarity i => { c with inputs := updV c.inputs i fun r => { r with activeHigh := v == 0 } }
  | .width i => { c with inputs := updV c.inputs (doorInputNo i) fun r => { r with width := v.toNat } }
  | .bd d => { c with bd := updV c.bd d fun _ => v.toNat }
  | .heldLimit => { c with heldLimit := v.toNat }
  | .trailingTime => { c with trailingTime := v.toNat }
  | .curtainThreshold => { c with curtainThreshold := v }
  | .heldShare => { c with heldShare := v.toNat }
  | .dropFilter => { c with dropFilter := v.toNat }
  | .restoreFilter => { c with restoreFilter := v.toNat }
  | .dewireThreshold => { c with dewireThreshold := v.toNat }
  | .fallbackEnvelope => { c with fallbackEnvelope := v.toNat }
  | .restoreRamp => { c with restoreRamp := v.toNat }
  | .quota k => { c with quota := updV c.quota k fun _ => v.toNat }
  | .shortfallNotice => { c with shortfallNotice := v.toNat }
  | .absorbBand => { c with absorbBand := v }
  | .minOn => { c with minOn := v.toNat }
  | .minOff => { c with minOff := v.toNat }
  | .slotLength => { c with slotLength := v.toNat }
  | .markLength => { c with markLength := v.toNat }
  | .orderInterval => { c with orderInterval := v.toNat }
  | .windowSize => { c with windowSize := v.toNat }
  | .echoTimeout => { c with echoTimeout := v.toNat }
  | .nodeSilence => { c with nodeSilence := v.toNat }
  | .group g => c.putGroup g v
  | .driverExpiry => { c with driverExpiry := v.toNat }

/-- The range of an item (R186 and the rules it names); an item of codes or a set runs from its lowest to its
highest code. DEDUCED, unsafe: notes/assumptions/47.md. -/
def Item.range : Item → Int × Int
  | .sensorHold => (2, 30)
  | .sensorDegrade => (20, 300)
  | .fallbackOutside => (-400, 200)
  | .weight _ _ => (0, 4)
  | .presence _ => (0, 1)
  | .node _ => (0, 1)
  | .output _ => (0, 15)
  | .owner _ => (0, 20)
  | .kind _ => (0, 1)
  | .rating _ => (1, 60)
  | .phase _ => (0, 63)
  | .regPeriod => (1, 4)
  | .baseSetpoint _ => (120, 280)
  | .kp => (0, 255)
  | .ki => (0, 255)
  | .kf => (0, 255)
  | .kv => (0, 255)
  | .imax => (0, 120)
  | .fallbackBias => (0, 60)
  | .freshCold => (0, 100)
  | .freshMild => (0, 100)
  | .demistFloor => (0, 100)
  | .mWatch => (0, 300)
  | .mOn => (0, 300)
  | .mOff => (0, 300)
  | .demistHold => (5, 300)
  | .filmShare => (0, 100)
  | .qDemist => (0, 120)
  | .qDefrost => (0, 120)
  | .defrostDuration => (60, 1200)
  | .glassTarget => (0, 400)
  | .glassLimit => (100, 700)
  | .coldStart => (0, 1)
  | .enable _ => (0, 1)
  | .polarity _ => (0, 1)
  | .width _ => (0, 3)
  | .bd _ => (0, 60)
  | .heldLimit => (30, 600)
  | .trailingTime => (0, 30)
  | .curtainThreshold => (-400, 400)
  | .heldShare => (0, 100)
  | .dropFilter => (1, 20)
  | .restoreFilter => (20, 500)
  | .dewireThreshold => (2, 60)
  | .fallbackEnvelope => (0, 400)
  | .restoreRamp => (4, 200)
  | .quota _ => (0, 1000)
  | .shortfallNotice => (5, 120)
  | .absorbBand => (0, 30)
  | .minOn => (2, 60)
  | .minOff => (2, 60)
  | .slotLength => (5, 100)
  | .markLength => (1, 8)
  | .orderInterval => (50, 500)
  | .windowSize => (1, 4)
  | .echoTimeout => (20, 200)
  | .nodeSilence => (200, 2000)
  | .group _ => (0, 63)
  | .driverExpiry => (1, 240)

/-- A value clamped into the item's range (R2, R187). -/
def Item.clamp (it : Item) (v : Int) : Int :=
  clampInt it.range.1 it.range.2 v

/-- The factory default of an item. -/
def Item.default (it : Item) : Int :=
  factory.get it

/-! ### The checks of R187 -/

/-- The present slots with their numbers. -/
def Settings.presentSlots (c : Settings) : List (SlotNo × SlotCfg) :=
  (rowsV c.slots).filter fun r => r.2.present

/-- Constraint 1 of R5: an element owned by a curtain or by the screen is MODULATED. -/
def SlotCfg.kindSuitsOwner (x : SlotCfg) : Bool :=
  match x.owner with
  | .zone _ => true
  | _ => x.kind == .modulated

/-- Constraints 2 to 4 of R5 between two present slots: no second slot of one curtain or of the screen,
no second MODULATED element of one zone, no shared output of one node. -/
def SlotCfg.compatible (x y : SlotCfg) : Bool :=
  !(x.node == y.node && x.output == y.output) &&
  match x.owner with
  | .zone _ => !(x.owner == y.owner && x.kind == .modulated && y.kind == .modulated)
  | _ => !(x.owner == y.owner)

/-- Constraint 6 of R5 for one zone. -/
def Settings.zoneRating (c : Settings) (z : ZoneNo) : Nat :=
  ((c.presentSlots.filter fun r => r.2.owner == .zone z).map fun r => r.2.rating).sum

/-- The structural constraints of the element map (R5); constraint 5 holds by the type of owners. -/
def Settings.mapOk (c : Settings) : Bool :=
  (c.presentSlots.all fun x => x.2.kindSuitsOwner && decide (x.2.output ≤ 15)) &&
  (c.presentSlots.all fun x => c.presentSlots.all fun y => x.1 == y.1 || x.2.compatible y.2) &&
  (List.finRange 6).all fun z => decide (c.zoneRating z ≤ 120)

/-- The order Mon ≤ Moff ≤ Mwatch (R65). -/
def Settings.thresholdsOk (c : Settings) : Bool :=
  decide (c.mOn ≤ c.mOff) && decide (c.mOff ≤ c.mWatch)

/-- Whether a value of an enumerated item is one of its codes (R187). The enable and the polarity of an input and
the cold-start enable are taken for such items: a value other than 0 and 1 is refused, not clamped. DEDUCED,
unsafe: notes/assumptions/29.md. -/
def Item.codeOk (it : Item) (v : Int) : Bool :=
  match it with
  | .presence _ | .node _ | .kind _ | .coldStart | .enable _ | .polarity _ => v == 0 || v == 1
  | .owner _ => decide (0 ≤ v) && (Owner.ofCode? v.toNat).isSome
  | _ => true

/-- Whether a value is structurally valid for an item, the change applied to the configuration as it
stands (step 2 of R187; R5, R27, R65, R68, R128, R133, R154). DEDUCED, unsafe: notes/assumptions/29.md. -/
def Settings.accepts (c : Settings) (it : Item) (v : Int) : Bool :=
  it.codeOk v &&
  match it with
  | .rating i => !(v == 0 && c.slots[i].kind == .contactor) && (c.put it (it.clamp v)).mapOk
  | .phase _ => decide (0 ≤ v) && decide (v ≤ 63)
  | .output _ => decide (0 ≤ v) && decide (v ≤ 15) && (c.put it v).mapOk
  | .presence _ | .node _ | .owner _ | .kind _ => (c.put it v).mapOk
  | .group _ => decide (0 ≤ v) && decide (v ≤ 63)
  | .width _ => decide (0 ≤ v) && decide (v ≤ 3)
  | .regPeriod => v == 1 || v == 2 || v == 4
  | .mWatch | .mOn | .mOff => (c.put it (it.clamp v)).thresholdsOk
  | _ => true

/-- Whether an item names one of the fixed groups 0 to 3 (step 3 of R187, R154). -/
def Item.fixedGroup : Item → Bool
  | .group g => decide (g.val < 4)
  | _ => false

/-- Every item is within its range and the whole is structurally valid (R190). -/
def Settings.valid (c : Settings) : Bool :=
  (allItems.all fun it =>
    decide (it.range.1 ≤ c.get it) && decide (c.get it ≤ it.range.2)) &&
  c.mapOk && c.thresholdsOk && (c.regPeriod == 1 || c.regPeriod == 2 || c.regPeriod == 4)

/-- Whether an item is one of the fields of an element slot that R188 takes the element off for. -/
def Item.elementSlot? : Item → Option SlotNo
  | .presence i | .node i | .output i | .owner i | .kind i | .rating i => some i
  | _ => none

end Sys2Proof.Machine
end

