-- ==== Sys2Proof/Machine/Views.lean ====
section
/-! DEFINITION. What blocks read from one another's records: the resolution of the Override Table (R162),
the views of the element table (R6), the door map (R7), the screen-air request (R45). -/

namespace Sys2Proof.Machine

/-! ### Target groups and resolution (R154, R162) -/

/-- Section of a group (R154). -/
inductive GroupSection where
  | front | rear | both | none
  deriving DecidableEq, Repr

def GroupSection.code : GroupSection → Nat
  | .front => 0
  | .rear => 1
  | .both => 2
  | .none => 3

/-- Section of a set of zones: zones 0 to 2 lie in the front, 3 to 5 in the rear (R3, R154). -/
def sectionOfMask (m : BitVec 6) : GroupSection :=
  if m = 0 then .none
  else if m &&& 0b111000#6 = 0 then .front
  else if m &&& 0b000111#6 = 0 then .rear
  else .both

/-- Section of a group as its members stand. -/
def Settings.groupSection (c : Settings) (g : Fin 8) : GroupSection :=
  sectionOfMask (c.groupMask g)

/-- What a resolution is asked for: a zone, a section (AIR), a door or the screen (R162). -/
inductive Scope where
  | zone (z : ZoneNo)
  | air (n : Node)
  | door (d : DoorNo)
  | screen
  deriving DecidableEq, Repr

/-- Whether a target covers a scope (R162). -/
def Target.covers (c : Settings) (t : Target) : Scope → Bool
  | .zone z =>
    match t with
    | .zone y => y == z
    | .group g => (c.groupMask g).getLsbD z.val
    | _ => false
  | .air n =>
    match t with
    | .group g =>
      (match n with
       | .front => c.groupSection g == .front
       | .rear => c.groupSection g == .rear)
    | _ => false
  | .door d =>
    match t with
    | .door e => e == d
    | _ => false
  | .screen =>
    match t with
    | .screen => true
    | _ => false

/-- Whether `a` is taken before `b`: DESK before SERVICE, then the higher placed sequence (R162). -/
def Entry.before (a b : Entry) : Bool :=
  match a.source, b.source with
  | .desk, .service => true
  | .service, .desk => false
  | _, _ => decide (b.seq < a.seq)

/-- The entry taken of two candidates. -/
def firstEntry (best : Option (EntryNo × Entry)) (x : EntryNo × Entry) :
    Option (EntryNo × Entry) :=
  match best with
  | none => some x
  | some b => if x.2.before b.2 then some x else some b

/-- The entry that resolves for a kind and scope, with its slot (R162). -/
def State.resolveAt (s : State) (k : OverrideKind) (sc : Scope) : Option (EntryNo × Entry) :=
  (s.entries.filter fun x =>
    x.2.kind == k && !x.2.suspended && x.2.target.covers s.cfg sc).foldl firstEntry none

/-- The entry that resolves for a kind and scope. -/
def State.resolve (s : State) (k : OverrideKind) (sc : Scope) : Option Entry :=
  (s.resolveAt k sc).map (·.2)

/-- Whether a ZONE-OFF override resolves for a zone. -/
def State.zoneOff (s : State) (z : ZoneNo) : Bool :=
  (s.resolve .zoneOff (.zone z)).isSome

/-- The ZONE-CAP value that resolves for a zone. -/
def State.zoneCap (s : State) (z : ZoneNo) : Option Nat :=
  (s.resolve .zoneCap (.zone z)).bind fun e => e.value.map Int.toNat

/-- The SETPOINT-SHIFT value that resolves for a zone. -/
def State.zoneShift (s : State) (z : ZoneNo) : Option Int :=
  (s.resolve .setpointShift (.zone z)).bind (·.value)

/-- The AIR value that resolves for a section. -/
def State.airValue (s : State) (n : Node) : Option Nat :=
  (s.resolve .air (.air n)).bind fun e => e.value.map Int.toNat

/-- Whether a CURTAIN-OFF override resolves for a door. -/
def State.curtainOff (s : State) (d : DoorNo) : Bool :=
  (s.resolve .curtainOff (.door d)).isSome

/-- The DEFROST entry held, with its slot; there is at most one (R164). -/
def State.defrostEntry (s : State) : Option (EntryNo × Entry) :=
  s.entries.find? fun x => x.2.kind == .defrost

/-- Whether an AIR entry lies in the front section (R163). -/
def Entry.airInFront (c : Settings) (e : Entry) : Bool :=
  e.kind == .air && e.target.covers c (.air .front)

/-! ### Views of the element table (R6) -/

/-- The zone's elements that are IN-SERVICE, in slot order. -/
def State.zoneElements (s : State) (z : ZoneNo) : List SlotNo :=
  allSlots.filter fun i => (s.slot i).owner == .zone z && (s.elem i).state == .inService

/-- Available rating of a zone (R6). -/
def State.available (s : State) (z : ZoneNo) : Nat :=
  ((s.zoneElements z).map fun i => (s.slot i).rating).sum

/-- Contactor set of a zone (R6). -/
def State.contactors (s : State) (z : ZoneNo) : List SlotNo :=
  (s.zoneElements z).filter fun i => (s.slot i).kind == .contactor

/-- The zone's IN-SERVICE modulated element, when it has one (R6; at most one by R5). -/
def State.modulated (s : State) (z : ZoneNo) : Option SlotNo :=
  (s.zoneElements z).find? fun i => (s.slot i).kind == .modulated

/-- The present slot of a curtain or of the screen (R5). -/
def State.ownedSlot (s : State) (o : Owner) : Option SlotNo :=
  allSlots.find? fun i => (s.slot i).present && (s.slot i).owner == o

/-- The present slots of a node (R116), in slot order. -/
def State.nodeSlots (s : State) (n : Node) : List SlotNo :=
  allSlots.filter fun i => (s.slot i).present && (s.slot i).node == n

/-! ### Doors -/

/-- The weight of a door for a zone (R7). -/
def State.weight (s : State) (d : DoorNo) (z : ZoneNo) : Nat :=
  s.cfg.weights[d][z]

/-- A door is mapped to a zone when its weight for the zone is not 0 (R7). -/
def State.mapped (s : State) (d : DoorNo) (z : ZoneNo) : Bool :=
  s.weight d z != 0

/-- Whether some door mapped to the zone is in one of the states. -/
def State.mappedDoorIn (s : State) (z : ZoneNo) (states : List DoorState) : Bool :=
  allDoors.any fun d => s.mapped d z && states.contains (s.door d).state

/-- A door's DR input is open when its filtered level is INACTIVE; UNSETTLED counts as closed (R70). -/
def State.drOpen (s : State) (d : DoorNo) : Bool :=
  (s.input (drInput d)).filtered == .inactive

/-- REL is active when its filtered level is ACTIVE; UNSETTLED counts as INACTIVE (R70). -/
def State.relActive (s : State) : Bool :=
  (s.input relInput).filtered == .active

/-! ### Power -/

/-- Effective budget (R97). -/
def State.budget (s : State) : Nat :=
  if s.pa.line ≠ .present then 0
  else if s.pa.envState = .none then 0
  else if s.pa.ceilingActive then min s.pa.envelope s.pa.ceiling
  else s.pa.envelope

/-- The base grant of a zone in the grant table (R34). -/
def State.baseGrant (s : State) (z : ZoneNo) : Nat :=
  (s.member (baseMember z)).grant

/-- Screen-part value of a zone: a zone other than CAB has none (R98). -/
def State.screenPart (s : State) (z : ZoneNo) (f : MemberRec → Nat) : Nat :=
  if z.val = 0 then f (s.member screenPartMember) else 0

/-- Zone grant: the sum of the grants of the zone's parts (R98). -/
def State.zoneGrant (s : State) (z : ZoneNo) : Nat :=
  s.baseGrant z + (s.member (doorMember z)).grant + s.screenPart z (·.grant)

/-- Draw of an element as ordered: a contactor counts its rating while ordered CLOSED or queued, a
modulated element its modulated draw (R121, R122, R123). -/
def State.elemDraw (s : State) (i : SlotNo) : Nat :=
  if (s.slot i).kind = .contactor then
    if (s.elem i).closed || s.es.queue.contains i then (s.slot i).rating else 0
  else (s.elem i).draw

/-- Sum of the draws of some slots. -/
def State.drawOf (s : State) (l : List SlotNo) : Nat :=
  (l.map s.elemDraw).sum

/-- Accounted draw: the draws of all elements and the held draw of each lost node (R112).
DESIGN CHOICE, unsafe: notes/assumptions/26.md. -/
def State.accountedDraw (s : State) : Nat :=
  s.drawOf allSlots + s.nlc.front.heldDraw + s.nlc.rear.heldDraw

end Sys2Proof.Machine
end

