-- ==== Sys2Proof/Machine/Stager.lean ====
section
/-! DEFINITION. The Element Stager's part of an allocation pass: the held draw (R101), staging (R119 to
R123), the closure queue (R124), and taking an element off (R118). -/

namespace Sys2Proof.Machine

/-! ### Contactors -/

/-- A contactor ordered CLOSED that has been closed for less than the minimum on-time (R101, R120). -/
def State.closedHeld (s : State) (i : SlotNo) : Bool :=
  (s.elem i).closed &&
  match (s.elem i).closedSince with
  | some t => decide (s.now < t + s.cfg.minOn * 1000)
  | none => false

/-- The held contactors of a zone (R120). -/
def State.heldContactors (s : State) (z : ZoneNo) : List SlotNo :=
  (s.contactors z).filter s.closedHeld

/-- The held draw of a zone (R101). -/
def State.heldDraw (s : State) (z : ZoneNo) : Nat :=
  ((s.heldContactors z).map fun i => (s.slot i).rating).sum

/-- Order a closed contactor open: its opened-since time is now (R121). -/
def ElemRec.openAt (now : Nat) (e : ElemRec) : ElemRec :=
  { e with closed := false, closedSince := none, openedSince := some now }

/-- Order a contactor open. -/
def State.openContactor (s : State) (i : SlotNo) : State :=
  s.modElem i (·.openAt s.now)

/-- Whether a contactor is in the closure queue. -/
def State.queued (s : State) (i : SlotNo) : Bool :=
  s.es.queue.contains i

/-- Whether an open contactor has been open for the minimum off-time; one with no opened-since time has
nothing to wait for (R120). -/
def State.openedLongEnough (s : State) (i : SlotNo) : Bool :=
  match (s.elem i).openedSince with
  | some t => decide (t + s.cfg.minOff * 1000 ≤ s.now)
  | none => true

/-- The free contactors of R120: closed past the minimum on-time, queued, or open past the minimum
off-time. -/
def State.isFree (s : State) (i : SlotNo) : Bool :=
  if (s.elem i).closed then !s.closedHeld i
  else s.queued i || s.openedLongEnough i

/-! ### Choice of contactors (R120) -/

/-- The subsets of a list of slots, each in the list's order. -/
def subsets {α : Type} : List α → List (List α)
  | [] => [[]]
  | x :: xs => (subsets xs).map (x :: ·) ++ subsets xs

/-- Sum of the ratings of some slots. -/
def State.ratingOf (s : State) (l : List SlotNo) : Nat :=
  (l.map fun i => (s.slot i).rating).sum

/-- Rating of the members already ordered CLOSED or queued. -/
def State.keptRating (s : State) (l : List SlotNo) : Nat :=
  s.ratingOf (l.filter fun i => (s.elem i).closed || s.queued i)

/-- Whether a subset has the lower slot number at the first difference. -/
def lowerFirst : List SlotNo → List SlotNo → Bool
  | [], _ => false
  | _ :: _, [] => true
  | x :: xs, y :: ys => if x = y then lowerFirst xs ys else decide (x < y)

/-- Whether subset `a` is taken over subset `b`: the larger sum, then the larger rating already closed
or queued, then the lower slot number (R120). -/
def State.preferred (s : State) (a b : List SlotNo) : Bool :=
  if s.ratingOf a ≠ s.ratingOf b then decide (s.ratingOf b < s.ratingOf a)
  else if s.keptRating a ≠ s.keptRating b then decide (s.keptRating b < s.keptRating a)
  else lowerFirst a b

/-- The chosen subset of the free contactors whose ratings fit into `room` (R120). -/
def State.chooseContactors (s : State) (free : List SlotNo) (room : Nat) : List SlotNo :=
  ((subsets free).filter fun a => decide (s.ratingOf a ≤ room)).foldl
    (fun best a => if s.preferred a best then a else best) []

/-! ### The closure queue (R124) -/

/-- Order of the closure queue: CAB before SALOON, then ascending slot number. -/
def State.queueBefore (s : State) (i j : SlotNo) : Bool :=
  let ci := (s.slot i).owner == .zone 0
  let cj := (s.slot j).owner == .zone 0
  if ci = cj then decide (i < j) else ci

/-- Put a slot at the place that the order gives it. -/
def State.insertQueue (s : State) (i : SlotNo) : List SlotNo → List SlotNo
  | [] => [i]
  | j :: rest => if s.queueBefore i j then i :: j :: rest else j :: s.insertQueue i rest

/-- The queue in the order of R124 under the owners that now stand. -/
def State.orderQueue (s : State) : State :=
  s.setQueue (s.es.queue.foldr s.insertQueue [])

/-- Enter a contactor into the closure queue: not a second time, and not into a full queue (R124). -/
def State.enqueue (s : State) (i : SlotNo) : State :=
  if s.queued i ∨ Config.queueCapacity ≤ s.es.queue.length then s
  else s.setQueue (s.insertQueue i s.es.queue)

/-- Remove a contactor from the closure queue. -/
def State.dequeue (s : State) (i : SlotNo) : State :=
  s.setQueue (s.es.queue.filter (· != i))

/-! ### Staging (R119, R121 to R123) -/

/-- Set a modulated element from its granted portion and the heat it may draw (R122, R123). -/
def ElemRec.modulate (rating portion heat : Nat) (e : ElemRec) : ElemRec :=
  let c := min Config.periodSlots (heat * Config.periodSlots / rating)
  { e with
    granted := min portion rating
    duty := c
    draw := ceilDiv (rating * c) Config.periodSlots }

/-- Sum K of the ratings of a zone's contactors ordered CLOSED or queued (R122). -/
def State.closedOrQueued (s : State) (z : ZoneNo) : Nat :=
  s.keptRating (s.contactors z)

/-- Switch a zone's free contactors to the chosen subset (R121). Where the queue has too few free places,
the lower slot numbers enter. DESIGN CHOICE, unsafe: notes/assumptions/39.md. -/
def State.switchContactors (s : State) (free chosen : List SlotNo) : State :=
  let leaving := free.filter fun i => !chosen.contains i
  let s := (leaving.filter fun i => (s.elem i).closed).foldl State.openContactor s
  let s := (leaving.filter s.queued).foldl State.dequeue s
  (chosen.filter fun i => !(s.elem i).closed).foldl State.enqueue s

/-- Stage one zone from its zone grant (R119 to R122). -/
def State.stageZone (s : State) (z : ZoneNo) : State :=
  let grant := s.zoneGrant z
  let free := (s.contactors z).filter s.isFree
  let chosen := s.chooseContactors free (grant - s.heldDraw z)
  let s := s.switchContactors free chosen
  match s.modulated z with
  | none => s
  | some i =>
    let portion := grant - s.closedOrQueued z
    s.modElem i (ElemRec.modulate (s.slot i).rating portion (portion + s.absorbed i))

/-- Stage a curtain or the film from its member grant (R123); `extra` is the film's absorbed amount. -/
def State.stageOwned (s : State) (o : Owner) (grant : Nat) (extra : SlotNo → Nat) : State :=
  match s.ownedSlot o with
  | none => s
  | some i =>
    if (s.elem i).state = .inService then
      s.modElem i (ElemRec.modulate (s.slot i).rating grant (grant + extra i))
    else s

/-- Stage a door's curtain (R123). -/
def State.stageCurtain (s : State) (d : DoorNo) : State :=
  s.stageOwned (.curtain d) (s.member (curtainMember d)).grant fun _ => 0

/-- Stage every zone, curtain and film from the grant table as it stands (R119). -/
def State.stage (s : State) : State :=
  let s := allZones.foldl State.stageZone s
  let s := allDoors.foldl State.stageCurtain s
  s.stageOwned .screen (s.member filmMember).grant s.absorbed

/-! ### Taking an element off (R118) -/

/-- The record of an element ordered off at `now`: a contactor ordered CLOSED is opened, and granted
portion, duty and draw become 0 (R118, steps 1 and 3). -/
def ElemRec.off (now : Nat) (e : ElemRec) : ElemRec :=
  let e := if e.closed then e.openAt now else e
  { e with granted := 0, duty := 0, draw := 0 }

/-- Order an element off and take it out of the closure queue. -/
def State.takeOff (s : State) (i : SlotNo) : State :=
  (s.dequeue i).modElem i (·.off s.now)

/-- How many of some slots are contactors whose opening now is a forced shed. -/
def State.sheds (s : State) (l : List SlotNo) : Nat :=
  (l.filter s.closedHeld).length

/-- An element leaves IN-SERVICE: it is ordered off, enters the new state, and its absorbed amount
becomes 0 (R111, R118). The caller signals the forced sheds and hands the change to the PA. -/
def State.leaveService (s : State) (i : SlotNo) (st : ElemState) (why : Option LockoutReason) :
    State :=
  ((s.takeOff i).modElem i fun e => { e with state := st, lockout := why }).setAbsorbed i 0

/-- The state that a released or newly present element enters: OFFLINE when its node is LOST (R117). -/
def State.returnState (s : State) (i : SlotNo) : ElemState :=
  if (s.link (s.slot i).node).state = .lost then .offline else .inService

end Sys2Proof.Machine
end

