-- ==== Sys2Proof/Machine/Allocator.lean ====
section
/-! DEFINITION. The Power Allocator: the clamps of the demand table (R99, R100), the allocation pass (R102
to R107), the surplus window (R108 to R111), postings and the restore ceiling test (R96). -/

namespace Sys2Proof.Machine

/-! ### Clamps of the demand table -/

/-- Demand of a member clamped against its own element slot (R99). -/
def State.ownedDemand (s : State) (o : Owner) (posted : Nat) : Nat :=
  match s.ownedSlot o with
  | some i => if (s.elem i).state = .inService then min posted (s.slot i).rating else 0
  | none => 0

/-- The zone limit L: the available rating, or the resolved ZONE-CAP when it is lower (R100). -/
def State.zoneLimit (s : State) (z : ZoneNo) : Nat :=
  match s.zoneCap z with
  | some cap => min cap (s.available z)
  | none => s.available z

/-- Demand of a zone's screen part (R100, step 1); a zone other than CAB has none. -/
def State.screenDemand (s : State) (z : ZoneNo) : Nat :=
  if s.zoneOff z then 0 else min (s.screenPart z (·.posted)) (s.zoneLimit z)

/-- Demand of a zone's base part (R100, step 2). -/
def State.baseDemand (s : State) (z : ZoneNo) : Nat :=
  if s.zoneOff z then 0
  else min (s.member (baseMember z)).posted (s.zoneLimit z - s.screenDemand z)

/-- Demand of a zone's door part (R100, step 3). -/
def State.doorDemand (s : State) (z : ZoneNo) : Nat :=
  if s.zoneOff z then 0
  else min (s.member (doorMember z)).posted (s.zoneLimit z - s.screenDemand z - s.baseDemand z)

/-- The demands of a zone's screen, base and door parts as they stand in the table. -/
def State.zoneDemands (s : State) (z : ZoneNo) : Nat × Nat × Nat :=
  (s.screenPart z (·.demand), (s.member (baseMember z)).demand, (s.member (doorMember z)).demand)

/-- Set the demand of a member. -/
def State.setDemand (s : State) (m : Fin 18) (d : Nat) : State :=
  s.modMember m fun r => { r with demand := d }

/-- Reapply the zone clamp to one zone's parts (R100). -/
def State.clampZone (s : State) (z : ZoneNo) : State :=
  let sd := s.screenDemand z
  let bd := s.baseDemand z
  let gd := s.doorDemand z
  let s := if z.val = 0 then s.setDemand screenPartMember sd else s
  (s.setDemand (baseMember z) bd).setDemand (doorMember z) gd

/-- Reapply the clamp of the film member (R99). -/
def State.clampFilm (s : State) : State :=
  s.setDemand filmMember (s.ownedDemand .screen (s.member filmMember).posted)

/-- Reapply the clamp of a curtain member (R99). -/
def State.clampCurtain (s : State) (d : DoorNo) : State :=
  s.setDemand (curtainMember d) (s.ownedDemand (.curtain d) (s.member (curtainMember d)).posted)

/-- Reapply every clamp after a change of availability or rating (R99, R100). -/
def State.clampAll (s : State) : State :=
  allZones.foldl State.clampZone (allDoors.foldl State.clampCurtain s.clampFilm)

/-! ### The allocation pass -/

/-- Every held contactor. -/
def State.allHeld (s : State) : List SlotNo :=
  allZones.flatMap s.heldContactors

/-- Total held draw of all classes (R103). -/
def State.totalHeld (s : State) : Nat :=
  (allZones.map s.heldDraw).sum

/-- Whether held contactor `i` is released before `j`: SALOON before CAB, then the latest closed-since
time, then the higher slot number (R103). -/
def State.shedBefore (s : State) (i j : SlotNo) : Bool :=
  let si := !((s.slot i).owner == .zone 0)
  let sj := !((s.slot j).owner == .zone 0)
  let ti := (s.elem i).closedSince.getD 0
  let tj := (s.elem j).closedSince.getD 0
  if si ≠ sj then si
  else if ti ≠ tj then decide (tj < ti)
  else decide (j < i)

/-- The held contactor released next. -/
def State.nextShed (s : State) : Option SlotNo :=
  s.allHeld.foldl (fun best i =>
    match best with
    | none => some i
    | some j => if s.shedBefore i j then some i else some j) none

/-- Step 1 of a pass: release held contactors until the held draw fits the budget, counting them
(R103); `fuel` bounds the releases by the number of slots. -/
def shedToFit : Nat → State → State × Nat
  | 0, s => (s, 0)
  | fuel + 1, s =>
    if s.totalHeld ≤ s.budget then (s, 0)
    else
      match s.nextShed with
      | none => (s, 0)
      | some i =>
        let r := shedToFit fuel (s.openContactor i)
        (r.1, r.2 + 1)

/-- Held draw counted to a member: a base member's zone, 0 for the others (R101). -/
def State.memberHeld (s : State) (m : Fin 18) : Nat :=
  match baseZone? m with
  | some z => s.heldDraw z
  | none => 0

/-- The allocation demand d' of a member: max(d, held draw) for a base member, d for the others (R98,
R101). -/
def MemberRec.alloc (r : MemberRec) : Nat :=
  max r.demand r.held

/-- What a class brings to a pass: its held draw, its demand D and its quota Q (R104). -/
structure ClassAsk where
  held : Nat
  demand : Nat
  quota : Nat
  deriving DecidableEq, Repr

/-- Step 2 of a pass: the reserves of the classes in priority order, from the remaining budget (R104). -/
def reserves : Nat → List ClassAsk → List Nat
  | _, [] => []
  | remaining, c :: below =>
    let free := remaining - (below.map (·.held)).sum
    let r := max c.held (min c.demand (min c.quota free))
    r :: reserves (remaining - r) below

/-- Step 3 of a pass: what each class takes of the budget that the reserves have left, given each class's
demand not yet met, in priority order (R105). -/
def shares : Nat → List Nat → List Nat
  | _, [] => []
  | remaining, want :: below =>
    let t := min want remaining
    t :: shares (remaining - t) below

/-- The class grants G of a pass: reserve and share of each class (R104, R105). -/
def classGrants (budget : Nat) (asks : List ClassAsk) : List Nat :=
  let r := reserves budget asks
  let wants := List.zipWith (fun (c : ClassAsk) x => c.demand - x) asks r
  List.zipWith (· + ·) r (shares (budget - r.sum) wants)

/-- How many of the units left over go before position `k`: larger remainders first, and lower positions
first among equals (R106). -/
def remainderRank (rems : List Nat) (k : Nat) : Nat :=
  let mine := rems.getD k 0
  ((List.range rems.length).filter fun j =>
    decide (mine < rems.getD j 0) || (rems.getD j 0 == mine && decide (j < k))).length

/-- The largest-remainder division of `x` over the demands `ws` (R106). -/
def divide (x : Nat) (ws : List Nat) : List Nat :=
  let total := ws.sum
  let floors := ws.map fun w => x * w / total
  let rems := ws.map fun w => x * w % total
  let left := x - floors.sum
  (List.range ws.length).map fun k =>
    floors.getD k 0 + if remainderRank rems k < left then 1 else 0

/-- What a class asks for at a pass, from the member records with their held draws filled in. -/
def State.ask (s : State) (c : HeatClass) : ClassAsk where
  held := ((classMembers c).map fun m => (s.member m).held).sum
  demand := ((classMembers c).map fun m => (s.member m).alloc).sum
  quota := s.cfg.quota[c.index]

/-- Fill the held draw of every member from the ES's report (R101). -/
def State.fillHeld (s : State) : State :=
  s.tabMembers fun m r => { r with held := s.memberHeld m }

/-- Step 4 for one class: each member receives its held draw and its share of the rest (R106). -/
def State.grantClass (s : State) (c : HeatClass) (grant : Nat) : State :=
  let ms := classMembers c
  let parts := divide (grant - (s.ask c).held)
    (ms.map fun m => (s.member m).alloc - (s.member m).held)
  (ms.zip parts).foldl
    (fun s mp => s.modMember mp.1 fun r => { r with grant := r.held + mp.2 }) s

/-- Step 5 for one class: the shortfall flag and timer, and the counted event of a short class (R107). -/
def State.recordShortfall (s : State) (c : HeatClass) : State :=
  let k := s.class c
  if k.grant < k.demand then
    let s := s.modClass c fun k =>
      if k.short then k
      else { k with short := true, timer := s.after (s.cfg.shortfallNotice * 1000) }
    s.signal .shortfallPass (some c.index.val) (k.demand - k.grant)
  else
    s.modClass c fun k => { k with short := false, timer := none }

/-- Steps 2 to 4: the class records and member grants of a pass (R104 to R106). -/
def State.allocate (s : State) : State :=
  let asks := allClasses.map s.ask
  let rs := reserves s.budget asks
  let gs := classGrants s.budget asks
  (allClasses.zip (rs.zip gs)).foldl (fun s x =>
    let a := s.ask x.1
    (s.modClass x.1 fun k =>
      { k with demand := a.demand, held := a.held, reserve := x.2.1, grant := x.2.2 }).grantClass
        x.1 x.2.2) s

/-- An absorbed amount reduced so that with the granted portion it stays within the rating (R111). -/
def State.trimmed (s : State) (i : SlotNo) : Nat :=
  min (s.absorbed i) ((s.slot i).rating - (s.elem i).granted)

/-- Trim the absorbed amounts after a staging, and stage again when one was reduced (R111, R119). -/
def State.trimSurplus (s : State) : State :=
  if allSlots.all fun i => s.trimmed i == s.absorbed i then s
  else (s.modSurplus fun r => { r with absorbed := Vector.ofFn s.trimmed }).stage

/-- An allocation pass (R102): steps 1 to 5, then the staging of the new grant table and the trim. The short
classes signal in the order SCREEN, CAB, DOOR, SALOON. DESIGN CHOICE, unsafe: notes/assumptions/43.md. -/
def State.allocationPass (s : State) : State :=
  let fit := shedToFit 24 s
  let s := fit.1.signalSheds fit.2
  let s := s.fillHeld.allocate
  let s := allClasses.foldl State.recordShortfall s
  s.stage.trimSurplus

/-- A pass when the demands of some zones differ from what they were (R100).
DEDUCED, unsafe: notes/assumptions/16.md. -/
def State.passIfChanged (s before : State) (zs : List ZoneNo) : State :=
  if zs.all fun z => s.zoneDemands z == before.zoneDemands z then s else s.allocationPass

/-- Reapply the zone clamp to some zones, with a pass when a demand changed (R100). -/
def State.reclampZones (s : State) (zs : List ZoneNo) : State :=
  (zs.foldl State.clampZone s).passIfChanged s zs

/-- Reapply the clamps after a change of an element and take a pass (R118, R130, R147, R188). -/
def State.availabilityChanged (s : State) : State :=
  s.clampAll.allocationPass

/-! ### Postings (R99) -/

/-- Replace the posted value of a member. -/
def State.post (s : State) (m : Fin 18) (v : Nat) : State :=
  s.modMember m fun r => { r with posted := v }

/-- The Zone Regulator's postings of base parts, as one arrival (R39, R99). -/
def State.postBases (s : State) (vs : List (ZoneNo × Nat)) : State :=
  (vs.foldl (fun s x => s.post (baseMember x.1) x.2) s).reclampZones (vs.map (·.1))

/-- The Screen Controller's posting of its two members (R64, R99). -/
def State.postScreenParts (s : State) (film part : Nat) : State :=
  ((s.post filmMember film).post screenPartMember part).clampFilm.reclampZones [0]

/-- The Door Draft Controller's posting of its ten members (R84, R99). -/
def State.postDoors (s : State) (parts : ZoneNo → Nat) (curtains : DoorNo → Nat) : State :=
  let s := allZones.foldl (fun s z => s.post (doorMember z) (parts z)) s
  let s := allDoors.foldl (fun s d => (s.post (curtainMember d) (curtains d)).clampCurtain d) s
  s.reclampZones allZones

/-! ### Restore ceiling and surplus window -/

/-- The ceiling test: with the envelope LIVE or LAPSED and C ≥ E the ceiling becomes inactive and its
step timer stops (R96). -/
def State.ceilingTest (s : State) : State :=
  if s.pa.ceilingActive ∧ s.pa.envState ≠ .none ∧ s.pa.envelope ≤ s.pa.ceiling then
    { s with pa := { s.pa with ceilingActive := false, stepTimer := none } }
  else s

/-- Steps 1 to 3 of the end of a surplus window (R110): the record is cleared, the absorbed amounts are
handed to the ES, and SURPLUS-END is raised. -/
def State.closeSurplus (s : State) : State :=
  ((s.modSurplus fun _ => SurplusRec.closed).stage).raise .surplusEnd

/-- The end of an open surplus window, with its pass (R110). -/
def State.endWindow (s : State) : State :=
  s.closeSurplus.allocationPass

end Sys2Proof.Machine
end

