-- ==== Sys2Proof/Machine/Zones.lean ====
section
/-! DEFINITION. The Zone Regulator (chapter 2): hold reasons and states, the computation of a zone, blower
levels, section air, and the regulation pass. -/

namespace Sys2Proof.Machine

/-! ### Hold reasons and states (R22, R23) -/

/-- The highest-ranking state whose reason is present (R22). -/
def HoldReasons.rank (r : HoldReasons) : ZoneState :=
  if r.off then .off
  else if r.gap then .gapHold
  else if r.missing then .degraded
  else if r.stale then .sensorHold
  else if r.door then .doorHold
  else .normal

/-- Replace the hold reasons and recompute the state (R22). -/
def ZoneRec.withReasons (z : ZoneRec) (r : HoldReasons) : ZoneRec :=
  { z with reasons := r, state := r.rank }

/-- Take the GAP reason for all six zones at a change of the line state (R23, R26). -/
def State.takeGap (s : State) : State :=
  let gap := s.pa.line != .present
  s.mapZones fun z => z.withReasons { z.reasons with gap := gap }

/-- The five hold reasons of a zone as a pass takes them (R22, R23). -/
def State.reasonsAtPass (s : State) (z : ZoneNo) : HoldReasons where
  off := s.zoneOff z
  gap := s.pa.line != .present
  missing := (s.value (.air z)).quality == .missing
  stale := (s.value (.air z)).quality == .stale
  door := s.mappedDoorIn z [.open]

/-! ### Blower levels (R41, R42) -/

/-- Base level from the share that the quantised demand forms of the available rating (R41). -/
def baseLevel (quant avail : Nat) : Nat :=
  if avail = 0 then 0
  else if quant = 0 then 0
  else if 100 * quant < 30 * avail then 1
  else if 100 * quant < 70 * avail then 2
  else 3

/-- Level ordered for a zone's blower: the base level of the last pass under the floors of R42. -/
def State.blowerLevel (s : State) (z : ZoneNo) : Nat :=
  if z.val = 0 ∧ s.sc.airRequest then 3
  else if (s.zone z).reasons.off then 0
  else if s.mappedDoorIn z [.open, .trailing] then max 2 (s.zone z).baseBlower
  else (s.zone z).baseBlower

/-- Recompute the blower level of a zone. -/
def State.setBlower (s : State) (z : ZoneNo) : State :=
  let l := s.blowerLevel z
  s.modZone z fun r => { r with blower := l }

/-- Recompute the blower levels of some zones. -/
def State.setBlowers (s : State) (zs : List ZoneNo) : State :=
  zs.foldl State.setBlower s

/-! ### Section air (R44 to R46) -/

/-- A section air record by R44, then R45 for the front. -/
def State.airRecord (s : State) (n : Node) : AirRec :=
  let normal := normalFraction s.cfg s.st.outsideTemp
  let base : AirRec :=
    match s.airValue n with
    | some v => { normalFresh := normal, resolvedAir := some v, source := .overridden,
                  commanded := v }
    | none => { normalFresh := normal, resolvedAir := none, source := .normal,
                commanded := normal }
  match n with
  | .front => base.floored s.cfg s.sc.airRequest
  | .rear => base

/-- Recompute both section air records (R46). -/
def State.recomputeAir (s : State) : State :=
  { s with zr := { s.zr with airFront := s.airRecord .front, airRear := s.airRecord .rear } }

/-! ### ZONE-OFF (R24) -/

/-- A zone record at the moment its OFF reason becomes present (R24). The base level of its blower stays that
of the last pass (R42). DEDUCED, unsafe: notes/assumptions/50.md. -/
def ZoneRec.enterOff (z : ZoneRec) : ZoneRec :=
  { z.withReasons { z.reasons with off := true } with
    integ := 0, hb := 0, quantHb := 0, lastPosted := 0, lowerStop := true, upperStop := false,
    err := some 0, prop := 0, iTerm := 0, feed := 0 }

/-- The OFF reason becomes present: the record is cleared, a base part of 0 is posted at once, and the
blower level is recomputed (R24, R42). -/
def State.enterOff (s : State) (z : ZoneNo) : State :=
  ((s.modZone z ZoneRec.enterOff).postBases [(z, 0)]).setBlower z

/-- The OFF reason leaves: the other recorded reasons give the state (R24), and the blower level is
recomputed from the base level of the last pass, which may have come before the zone entered OFF (R42).
DEDUCED, unsafe: notes/assumptions/50.md. -/
def State.leaveOff (s : State) (z : ZoneNo) : State :=
  (s.modZone z fun r => r.withReasons { r.reasons with off := false }).setBlower z

/-- Take the OFF reason of a zone when it differs from the recorded one (R23). -/
def State.takeOffReason (s : State) (z : ZoneNo) : State :=
  match s.zoneOff z, (s.zone z).reasons.off with
  | true, false => s.enterOff z
  | false, true => s.leaveOff z
  | _, _ => s

/-! ### The computation of a zone (R29 to R38) -/

/-- Setpoint in force (R29). -/
def State.setpoint (s : State) (z : ZoneNo) : Int :=
  match s.zoneShift z with
  | some v => clampInt 50 300 (s.cfg.baseSetpoint[z] + v)
  | none => s.cfg.baseSetpoint[z]

/-- Error against a present zone temperature (R30). -/
def zoneError (ts tz : Int) : Int :=
  clampInt (-200) 200 (ts - tz)

/-- Proportional term (R31). -/
def propTerm (kp : Nat) (e : Int) : Int :=
  (kp * e).tdiv 32

/-- An integrator clamped to its limit (R32). -/
def clampInteg (imax : Nat) (i : Int) : Int :=
  clampInt (-(imax * 256)) (imax * 256) i

/-- Integral term (R32). -/
def integralTerm (i : Int) : Int :=
  i.tdiv 256

/-- Feedforward term (R35). -/
def feedTerm (c : Settings) (fresh : Nat) (ts outside : Int) : Nat :=
  if 0 < ts - outside then (c.kf + c.kv * fresh / 100) * (ts - outside).toNat / 64 else 0

/-- Whether the integrator may move: the zone is NORMAL and no stop of R33 applies. -/
def integPermitted (r : ZoneRec) (state : ZoneState) (e : Int) (short : Bool) : Bool :=
  state == .normal && !(decide (0 < e) && (r.upperStop || short)) &&
    !(decide (e < 0) && r.lowerStop)

/-- The largest sum of a subset of ratings that does not exceed `hb` (R38). -/
def bestSum (hb : Nat) (ratings : List Nat) : Nat :=
  (((subsets ratings).map List.sum).filter fun t => decide (t ≤ hb)).foldl max 0

/-- The quantised base demand (R38). -/
def State.quantise (s : State) (z : ZoneNo) (hb : Nat) : Nat :=
  if (s.modulated z).isSome then hb
  else bestSum hb ((s.contactors z).map fun i => (s.slot i).rating)

/-- Finish a computation: the raw demand is clamped to the available rating, sets the stops (R33, R36)
and is quantised (R38). -/
def State.finishZone (s : State) (z : ZoneNo) (raw : Int) (r : ZoneRec) : ZoneRec :=
  let avail := s.available z
  let hb := (clampInt 0 avail raw).toNat
  let capped :=
    match s.zoneCap z with
    | some cap => decide (cap ≤ hb)
    | none => false
  let quant := s.quantise z hb
  { r with
    hb := hb
    quantHb := quant
    upperStop := hb == avail || capped
    lowerStop := hb == 0
    lastPosted := quant
    baseBlower := baseLevel quant avail }

/-- The zone record after the inputs of a pass are taken: setpoint, temperature, reasons, state and the
shortfall against the base grant (R23, R29, R30, R34). -/
def State.zoneInputs (s : State) (z : ZoneNo) : ZoneRec :=
  let r := s.zone z
  let v := s.value (.air z)
  let ts := s.setpoint z
  { r.withReasons (s.reasonsAtPass z) with
    ts := ts
    tz := v.value
    tzQuality := v.quality
    err := v.value.map (zoneError ts)
    lastBaseGrant := s.baseGrant z
    shortfall := decide (s.baseGrant z < r.lastPosted) }

/-- The record of an OFF zone after a pass: the terms stay 0 (R24). -/
def ZoneRec.computedOff (r : ZoneRec) : ZoneRec :=
  { r with
    prop := 0, integ := 0, iTerm := 0, feed := 0, hb := 0, quantHb := 0, lastPosted := 0,
    lowerStop := true, upperStop := false, baseBlower := 0 }

/-- The record of a zone without a temperature after a pass: the fallback demand (R25, R37). -/
def State.computeFallback (s : State) (z : ZoneNo) (fresh : Nat) (r : ZoneRec) : ZoneRec :=
  let f := feedTerm s.cfg fresh r.ts s.st.outsideTemp
  s.finishZone z (f + s.cfg.fallbackBias : Nat)
    { r with prop := 0, integ := 0, iTerm := 0, feed := f }

/-- The record of a zone regulated against its temperature after a pass (R31 to R36); `old` is the
record before the pass, whose stops permit the integrator. -/
def State.computeNormal (s : State) (z : ZoneNo) (fresh : Nat) (old r : ZoneRec) (e : Int) :
    ZoneRec :=
  let f := feedTerm s.cfg fresh r.ts s.st.outsideTemp
  let p := propTerm s.cfg.kp e
  let i :=
    if integPermitted old r.state e r.shortfall then clampInteg s.cfg.imax (r.integ + s.cfg.ki * e)
    else r.integ
  let t := integralTerm i
  s.finishZone z (f + p + t) { r with prop := p, integ := i, iTerm := t, feed := f }

/-- A zone's record after a regulation pass whose inputs are those of `s` and whose commanded fresh
fraction is `fresh` (R27, step 3). -/
def State.computeZone (s : State) (fresh : Nat) (z : ZoneNo) : ZoneRec :=
  let old := s.zone z
  let r := s.zoneInputs z
  if r.reasons.off then r.computedOff
  else
    match r.err with
    | none => s.computeFallback z fresh r
    | some e => s.computeNormal z fresh old r e

/-- Whether the MISSING reason becomes present for a zone at this pass (R25). -/
def State.newlyMissing (s : State) (z : ZoneNo) : Bool :=
  (s.reasonsAtPass z).missing && !(s.zone z).reasons.missing

/-! ### The regulation pass (R27) -/

/-- The regulation pass: air records, zone records, one posting of the six base parts, blower levels;
the timer restarts with the period in force. -/
def State.regulate (s : State) : State :=
  let aired := s.recomputeAir
  let zones := Vector.ofFn fun z : ZoneNo => s.computeZone (aired.air (sectionOf z)).commanded z
  let t := { aired with zr :=
    { aired.zr with zones := zones, passTimer := s.after (s.cfg.regPeriod * 1000) } }
  let t := t.raiseIf (allZones.any s.newlyMissing) .zoneDegraded
  let t := t.postBases (allZones.map fun z => (z, (t.zone z).quantHb))
  t.setBlowers allZones

end Sys2Proof.Machine
end

