-- ==== Sys2Proof/Machine/Doors.lean ====
section
/-! DEFINITION. The Door Draft Controller (chapter 4): door states, levels, curtains, posting and the door
tick. -/

namespace Sys2Proof.Machine

/-! ### Levels and curtains -/

/-- The history mean, absent when the ring is empty (R72). -/
def DoorRec.historyMean (d : DoorRec) : Option Nat :=
  if d.ring.isEmpty then none else some (d.ring.sum / d.ring.length)

/-- The pre-boost of a door (R74). -/
def preBoost (bd : Nat) (mean : Option Nat) : Nat :=
  match mean with
  | some m => bd * min m 200 / 200
  | none => bd / 2

/-- The dwell of a door: growing from the open-start time in OPEN and HELD, capped at 600000 ms, and
otherwise as last kept (R71). -/
def State.dwell (s : State) (d : DoorNo) : Nat :=
  match (s.door d).openStart with
  | some t => capped Config.dwellCap (s.now - t)
  | none => (s.door d).dwell

/-- Append the dwell of an opening to the ring, the oldest entry leaving a full ring (R72). -/
def appendRing (ring : List Nat) (dwell : Nat) : List Nat :=
  let r := if 8 ≤ ring.length then ring.drop 1 else ring
  r ++ [capped 6000 (dwell / 100)]

/-- Curtain heat of a door (R82). -/
def State.curtainHeat (s : State) (d : DoorNo) : Nat :=
  let rating := ownedRating s.cfg (.curtain d)
  if s.curtainOff d ∨ s.cfg.curtainThreshold ≤ s.st.outsideTemp then 0
  else
    match (s.door d).state with
    | .closed => 0
    | .armed => 0
    | .open => rating
    | .held => rating * s.cfg.heldShare / 100
    | .trailing => if (s.door d).trailingTimer.isSome then rating else 0

/-- Curtain blower of a door (R82). -/
def State.curtainBlower (s : State) (d : DoorNo) : CurtainBlower :=
  if s.curtainOff d then .off
  else
    match (s.door d).state with
    | .closed => .off
    | .armed => .low
    | .open => .high
    | .held => .high
    | .trailing => if (s.door d).trailingTimer.isSome then .high else .off

/-- Compute the curtain heat and blower of a door (R82). -/
def State.setCurtain (s : State) (d : DoorNo) : State :=
  let h := s.curtainHeat d
  let b := s.curtainBlower d
  s.modDoor d fun r => { r with curtainHeat := h, curtainBlower := b }

/-! ### Posting (R83, R84) -/

/-- A door's contribution to a zone's door part (R83). -/
def State.contribution (s : State) (d : DoorNo) (z : ZoneNo) : Nat :=
  (s.door d).level * s.weight d z / 4

/-- The door part of a zone (R83). -/
def State.doorPart (s : State) (z : ZoneNo) : Nat :=
  (allDoors.map fun d => s.contribution d z).sum

/-- The DDC's posting: ten members as one arrival; each door records its contributions (R84, R89). -/
def State.postDoorParts (s : State) : State :=
  let t := allDoors.foldl (fun t d =>
    t.modDoor d fun r => { r with contribution := Vector.ofFn fun z => s.contribution d z }) s
  t.postDoors s.doorPart fun d => (s.door d).curtainHeat

/-- Recompute the curtains of some doors, and post when a curtain heat changed (R82, R84). -/
def State.recomputeCurtainsOf (s : State) (ds : List DoorNo) : State :=
  let t := ds.foldl State.setCurtain s
  if ds.all fun d => (t.door d).curtainHeat == (s.door d).curtainHeat then t
  else t.postDoorParts

/-- Recompute every curtain (R82, R84). -/
def State.recomputeCurtains (s : State) : State :=
  s.recomputeCurtainsOf allDoors

/-- The zones to which a door is mapped. -/
def State.mappedZones (s : State) (d : DoorNo) : List ZoneNo :=
  allZones.filter (s.mapped d)

/-- Hand on a state change of a door after its record is set: curtain values, posting, blower floors
(R84, steps 1 to 3; the changed curtain blower of step 4 is found when the event ends). -/
def State.doorChanged (s : State) (d : DoorNo) : State :=
  let s := (s.setCurtain d).postDoorParts
  s.setBlowers (s.mappedZones d)

/-! ### Door states (R73 to R81) -/

/-- The record of a door in CLOSED (R73). Vclose is kept after TRAILING. DESIGN CHOICE, unsafe:
notes/assumptions/37.md. -/
def DoorRec.toClosed (r : DoorRec) : DoorRec :=
  { r with
    state := .closed, level := 0, openStart := none, decayTime := none, decayRemaining := none,
    decayTimer := none }

/-- The record of a door in ARMED with its pre-boost (R74). The decay times become absent; Vclose is kept.
DESIGN CHOICE, unsafe: notes/assumptions/37.md. -/
def DoorRec.toArmed (bd : Nat) (r : DoorRec) : DoorRec :=
  { r with
    state := .armed, level := preBoost bd r.historyMean, openStart := none, decayTime := none,
    decayRemaining := none, decayTimer := none }

/-- A door enters CLOSED. -/
def State.enterClosed (s : State) (d : DoorNo) : State :=
  (s.modDoor d DoorRec.toClosed).doorChanged d

/-- A door enters ARMED (R74). -/
def State.enterArmed (s : State) (d : DoorNo) : State :=
  (s.modDoor d (DoorRec.toArmed s.cfg.bd[d])).doorChanged d

/-- A door enters OPEN (R75). -/
def State.enterOpen (s : State) (d : DoorNo) : State :=
  let t := s.modDoor d fun r =>
    { r with
      state := .open, openStart := some s.now, dwell := 0, secondsCounted := 0,
      level := s.cfg.bd[d], heldTimer := s.after (s.cfg.heldLimit * 1000), trailingTimer := none,
      decayTime := none, decayRemaining := none, decayTimer := none, vclose := none }
  (t.doorChanged d).signal .doorOpen (some d.val) 1

/-- A door enters HELD (R76). -/
def State.enterHeld (s : State) (d : DoorNo) : State :=
  let t := s.modDoor d fun r =>
    { r with state := .held, level := s.cfg.bd[d] / 2, heldTimer := none }
  (t.doorChanged d).raise .doorHeld

/-- Decay time of an opening: twice the dwell, clamped (R77). -/
def decayFor (dwell : Nat) : Nat :=
  clampNat 5000 60000 (2 * dwell)

/-- A door in OPEN or HELD closes and enters TRAILING (R77); a trailing time of 0 expires at once. -/
def State.enterTrailing (s : State) (d : DoorNo) : State :=
  let w := s.dwell d
  let t := s.modDoor d fun r =>
    { r with
      state := .trailing, ring := appendRing r.ring w, vclose := some r.level,
      decayTime := some (decayFor w), decayRemaining := some (decayFor w),
      decayTimer := s.after (decayFor w), heldTimer := none, dwell := w, openStart := none,
      trailingTimer :=
        if s.cfg.trailingTime = 0 then none else s.after (s.cfg.trailingTime * 1000) }
  t.doorChanged d

/-- A door leaves TRAILING: to ARMED while REL is ACTIVE, to CLOSED otherwise (R78). -/
def State.leaveTrailing (s : State) (d : DoorNo) : State :=
  if s.relActive then s.enterArmed d else s.enterClosed d

/-- The door's DR input has become open (R73 to R75, R79). -/
def State.drOpens (s : State) (d : DoorNo) : State :=
  if (s.door d).inUse then
    match (s.door d).state with
    | .closed => s.enterOpen d
    | .armed => s.enterOpen d
    | .trailing => s.enterOpen d
    | .open => s
    | .held => s
  else s

/-- The door's DR input has become closed (R77). -/
def State.drCloses (s : State) (d : DoorNo) : State :=
  if (s.door d).inUse then
    match (s.door d).state with
    | .open => s.enterTrailing d
    | .held => s.enterTrailing d
    | .closed => s
    | .armed => s
    | .trailing => s
  else s

/-- One door at a change of REL to ACTIVE (R73) or INACTIVE (R74). A door whose DR input is UNSETTLED is
armed as any CLOSED door. DEDUCED, unsafe: notes/assumptions/35.md. -/
def State.relMoves (s : State) (active : Bool) (d : DoorNo) : State :=
  match active, (s.door d).state with
  | true, .closed => if (s.door d).inUse then s.enterArmed d else s
  | false, .armed => s.enterClosed d
  | _, _ => s

/-- REL has become ACTIVE or INACTIVE: each door moves on its own (R73, R74), door 1 first. DESIGN CHOICE,
unsafe: notes/assumptions/44.md. -/
def State.relChanged (s : State) (active : Bool) : State :=
  allDoors.foldl (fun s d => s.relMoves active d) s

/-- A door is taken out of use (R81): the DDC posts at the change of its in-use field (R84), and a door that
leaves another state for CLOSED makes a state change, which recomputes the blowers of its mapped zones (R42,
R87). A door that was CLOSED already makes none, and no blower moves. DESIGN CHOICE, unsafe:
notes/assumptions/49.md. -/
def State.doorOutOfUse (s : State) (d : DoorNo) : State :=
  let w := s.dwell d
  let t := s.modDoor d fun r =>
    { r.toClosed with
      inUse := false, curtainHeat := 0, curtainBlower := .off, vclose := some 0, dwell := w,
      heldTimer := none, trailingTimer := none }
  if (s.door d).state = .closed then (t.setCurtain d).postDoorParts else t.doorChanged d

/-- A door comes back into use and follows its DR input from the first settling (R81). -/
def State.doorInUse (s : State) (d : DoorNo) : State :=
  (s.modDoor d fun r => { r with inUse := true }).postDoorParts

/-! ### Timers of a door -/

/-- The held timer of an OPEN door expires (R76). -/
def State.heldExpiry (s : State) (d : DoorNo) : State :=
  if (s.door d).state = .open ∧ due (s.door d).heldTimer s.now then s.enterHeld d else s

/-- The trailing timer expires: the curtain turns off, and the door leaves TRAILING when its decay has
ended too (R78). -/
def State.trailingExpiry (s : State) (d : DoorNo) : State :=
  if (s.door d).state = .trailing ∧ due (s.door d).trailingTimer s.now then
    let t := s.modDoor d fun r => { r with trailingTimer := none }
    if (s.door d).decayTimer.isNone then t.leaveTrailing d
    else t.recomputeCurtainsOf [d]
  else s

/-- The decay ends: V becomes 0, and the door leaves TRAILING when the trailing timer has expired too
(R78). -/
def State.decayExpiry (s : State) (d : DoorNo) : State :=
  if (s.door d).state = .trailing ∧ due (s.door d).decayTimer s.now then
    let t := s.modDoor d fun r =>
      { r with decayRemaining := some 0, level := 0, decayTimer := none }
    if (s.door d).trailingTimer.isNone then t.leaveTrailing d else t
  else s

/-- V of a TRAILING door with some decay time remaining (R78). -/
def decayLevel (vclose remaining total : Nat) : Nat :=
  vclose * remaining / total

/-- A door's record at a door tick, before its curtain values (R85). -/
def DoorRec.tick (bd now : Nat) (r : DoorRec) : DoorRec :=
  match r.state with
  | .armed => { r with level := preBoost bd r.historyMean }
  | .held => { r with level := bd / 2 }
  | .trailing =>
    match r.decayTimer with
    | some e =>
      let rem := e - now
      { r with
        decayRemaining := some rem
        level := decayLevel (r.vclose.getD 0) rem (r.decayTime.getD 0) }
    | none => r
  | .closed => r
  | .open => r

/-- Whether a door's state makes a door tick post (R84). -/
def DoorState.posts : DoorState → Bool
  | .armed => true
  | .held => true
  | .trailing => true
  | .closed => false
  | .open => false

/-- The door tick (R85). -/
def State.doorTick (s : State) : State :=
  let t := allDoors.foldl (fun t d =>
    (t.modDoor d (DoorRec.tick t.cfg.bd[d] t.now)).setCurtain d) s
  let t := { t with ddc := { t.ddc with tick := s.after Config.doorTickPeriod } }
  if allDoors.any fun d => (t.door d).state.posts then t.postDoorParts else t

/-- The next whole second of dwell that is not yet signalled, in ms. -/
def DoorRec.nextSecond (r : DoorRec) : Nat :=
  (r.secondsCounted + 1) * 1000

/-- Whether a door's dwell has reached its next whole second; none beyond the cap (R86). -/
def State.secondDue (s : State) (d : DoorNo) : Bool :=
  match (s.door d).openStart with
  | some t =>
    decide (t + (s.door d).nextSecond ≤ s.now) &&
      decide ((s.door d).nextSecond ≤ Config.dwellCap)
  | none => false

/-- A whole second of dwell: DOOR-OPEN-SECOND is signalled, qualified by the door (R86). -/
def State.doorSecond (s : State) (d : DoorNo) : State :=
  if s.secondDue d then
    (s.modDoor d fun r => { r with secondsCounted := r.secondsCounted + 1 }).signal
      .doorOpenSecond (some d.val) 1
  else s

end Sys2Proof.Machine
end

