-- ==== Sys2Proof/Machine/Line.lean ====
section
/-! DEFINITION. The line record, the envelope, the restore ceiling and the surplus offers of the Power
Allocator (chapter 5), and the Input Conditioner that feeds the line and the doors (R69, R70, R91). -/

namespace Sys2Proof.Machine

/-! ### Line state (R92, R93) -/

/-- The ES at a line change into GAP: the queue is emptied, every closed contactor is opened and every
modulated duty becomes 0; the forced sheds are signalled (R92, step 6). -/
def State.allOff (s : State) : State :=
  let n := s.sheds allSlots
  (allSlots.foldl State.takeOff s).signalSheds n

/-- Every member and class grant becomes 0 (R92, step 5). -/
def State.zeroGrants (s : State) : State :=
  { s with pa := { s.pa with
      members := mapV (fun r => { r with grant := 0 }) s.pa.members
      classes := mapV (fun k => { k with grant := 0 }) s.pa.classes } }

/-- Entry into GAP from LINE-PRESENT, in the nine steps of R92. The pre-gap draw is not capped. DEDUCED,
unsafe: notes/assumptions/38.md. -/
def State.gapEntry (s : State) : State :=
  let t := { s with pa := { s.pa with
    preGapDraw := s.accountedDraw
    gapStart := some s.now
    line := .gap
    dewireTimer := s.after (s.cfg.dewireThreshold * 1000)
    ceilingActive := false
    stepTimer := none } }
  let t := if t.pa.surplus.isOpen then t.closeSurplus else t
  let t := t.zeroGrants.allOff.takeGap
  ((t.raise .gapBegin).signal .gap none 1).allocationPass

/-- The dewire timer's effect in GAP (R93). -/
def State.dewire (s : State) : State :=
  let t := { s with pa := { s.pa with line := .dewired, dewireTimer := none } }
  ((t.raise .dewired).signal .dewire none 1).allocationPass

/-- The return of the line from GAP or DEWIRED (R93). The ceiling takes the pre-gap draw as it was recorded.
DEDUCED, unsafe: notes/assumptions/38.md. -/
def State.lineReturn (s : State) : State :=
  let c := if s.pa.line = .gap then s.pa.preGapDraw else 0
  let t := { s with pa := { s.pa with
    line := .present
    dewireTimer := none
    ceiling := c
    ceilingActive := true
    stepTimer := s.after Config.restoreStepPeriod } }
  (t.ceilingTest.takeGap.raise .gapEnd).allocationPass

/-- A change of the filtered LINE reaches the PA (R92, R93). -/
def State.lineChanged (s : State) (f : Filtered) : State :=
  match f with
  | .inactive => if s.pa.line = .present then s.gapEntry else s
  | .active => if s.pa.line = .present then s else s.lineReturn
  | .unsettled => s

/-- The dewire timer expires (R93). -/
def State.dewireExpiry (s : State) : State :=
  if s.pa.line = .gap ∧ due s.pa.dewireTimer s.now then s.dewire else s

/-! ### Envelope and ceiling (R94 to R96) -/

/-- A new envelope value reaches the ceiling test and a pass (R94, R95). -/
def State.setEnvelope (s : State) (e : Nat) (st : EnvelopeState) (t : Timer) : State :=
  let s := { s with pa := { s.pa with envelope := e, envState := st, envTimer := t } }
  s.ceilingTest

/-- The envelope lapses (R95). -/
def State.lapse (s : State) : State :=
  let s := { s with pa := { s.pa with
    envelope := s.cfg.fallbackEnvelope, envState := .lapsed, envTimer := none } }
  let s := if s.pa.surplus.isOpen then s.endWindow else s
  s.ceilingTest.allocationPass.raise .envelopeLapsed

/-- The envelope hold timer expires (R95). -/
def State.envelopeExpiry (s : State) : State :=
  if due s.pa.envTimer s.now then s.lapse else s

/-- The restore step timer expires: C rises by the ramp step, capped at 1000 (R96). -/
def State.restoreStep (s : State) : State :=
  if s.pa.ceilingActive ∧ due s.pa.stepTimer s.now then
    let t := { s with pa := { s.pa with
      ceiling := capped 1000 (s.pa.ceiling + max 1 (s.cfg.restoreRamp / 4))
      stepTimer := s.after Config.restoreStepPeriod } }
    t.ceilingTest.allocationPass
  else s

/-! ### Surplus (R108 to R110) -/

/-- Whether a zone's modulated element is eligible: its state, its temperature and the absorb band
(R108, step 1). -/
def State.zoneEligible (s : State) (z : ZoneNo) : Bool :=
  ((s.zone z).state == .normal || (s.zone z).state == .doorHold) &&
  match (s.value (.air z)).value with
  | some tz => decide (tz < (s.zone z).ts + s.cfg.absorbBand)
  | none => false

/-- Whether a slot is eligible to absorb surplus (R108). -/
def State.eligible (s : State) (i : SlotNo) : Bool :=
  (s.elem i).state == .inService && (s.slot i).kind == .modulated &&
  match (s.slot i).owner with
  | .zone z => z.val != 0 && s.zoneEligible z
  | .curtain _ => false
  | .screen =>
    match s.st.glass.value with
    | some tg => decide (tg < s.cfg.glassLimit - 50)
    | none => false

/-- Headroom of an eligible element: its rating less its granted portion, or less the film member's
grant (R108). -/
def State.headroom (s : State) (i : SlotNo) : Nat :=
  match (s.slot i).owner with
  | .screen => (s.slot i).rating - (s.member filmMember).grant
  | _ => (s.slot i).rating - (s.elem i).granted

/-- The eligible slots in slot order; none in a gap or without an envelope (R108). -/
def State.eligibleSlots (s : State) : List SlotNo :=
  if s.pa.line ≠ .present ∨ s.pa.envState = .none then []
  else allSlots.filter s.eligible

/-- The acceptance of an offer (R108). -/
def State.acceptance (s : State) (offered : Nat) : Nat :=
  min offered ((s.eligibleSlots.map s.headroom).sum)

/-- Enter the absorbed amounts of an acceptance, all others 0 (R109). -/
def State.absorb (s : State) (a : Nat) : Vector Nat 24 :=
  let is := s.eligibleSlots
  let parts := divide a (is.map s.headroom)
  (is.zip parts).foldl (fun v x => updV v x.1 fun _ => x.2) (Vector.replicate 24 0)

/-- An offer of surplus with the amount and the window as clamped (R109). -/
def State.offer (s : State) (offered window : Nat) : State :=
  let a := s.acceptance offered
  let t :=
    if 0 < a then
      s.modSurplus fun _ =>
        { isOpen := true, offered := offered, accepted := a, endTime := s.after window,
          absorbed := s.absorb a }
    else if s.pa.surplus.isOpen then s.endWindow
    else s
  let t := t.allocationPass.stage
  (t.signal .surplusOffered none offered).signal .surplusAccepted none a

/-- An open window reaches its end time (R110). -/
def State.windowEnd (s : State) : State :=
  if s.pa.surplus.isOpen ∧ due s.pa.surplus.endTime s.now then s.endWindow else s

/-- The draw timer expires: ENERGY is signalled with the accounted draw (R112). -/
def State.energyReading (s : State) : State :=
  if due s.pa.drawTimer s.now then
    let t := { s with pa := { s.pa with drawTimer := s.after Config.drawPeriod } }
    t.signal .energy none s.accountedDraw
  else s

/-- A class shortfall timer expires (R107). -/
def State.shortfallExpiry (s : State) (c : HeatClass) : State :=
  if due (s.class c).timer s.now then
    (s.modClass c fun k => { k with timer := none }).raise .shortfall
  else s

/-- The allocation timer expires (R102). -/
def State.allocationExpiry (s : State) : State :=
  if due s.pa.allocTimer s.now then
    let t := { s with pa := { s.pa with allocTimer := s.after Config.allocationPeriod } }
    t.allocationPass
  else s

/-! ### The Input Conditioner (R68 to R70, R91) -/

/-- The raw sense of an input: ACTIVE when the raw level matches the polarity (R68). -/
def State.rawActive (s : State) (i : InputNo) : Bool :=
  (s.input i).raw == if s.cfg.inputs[i].activeHigh then .high else .low

/-- The filtered level that the raw sense leads to. -/
def State.sense (s : State) (i : InputNo) : Filtered :=
  if s.rawActive i then .active else .inactive

/-- Filter width of a width code (R68). -/
def widthOf (code : Nat) : Nat :=
  match code with
  | 0 => 0
  | 1 => 10
  | 2 => 40
  | _ => 160

/-- Filter time of an input towards its raw sense: the width code, or LINE's drop or restore filter
(R68, R91). -/
def State.filterTime (s : State) (i : InputNo) : Nat :=
  if i = lineInput then
    if s.rawActive i then s.cfg.restoreFilter else s.cfg.dropFilter
  else widthOf s.cfg.inputs[i].width

/-- Whether an enabled input's raw sense differs from its filtered level and has been stable for the filter
time (R69, R91). A disabled input never settles. DEDUCED, unsafe: notes/assumptions/36.md. -/
def State.filterDue (s : State) (i : InputNo) : Bool :=
  s.cfg.inputs[i].enable && (s.input i).filtered != s.sense i &&
    decide ((s.input i).stableSince + s.filterTime i ≤ s.now)

/-- Hand a change of a filtered level to its reader: a door, all doors, or the PA (R69, R91). -/
def State.handFiltered (s : State) (i : InputNo) (f : Filtered) : State :=
  if h : i.val < 4 then
    if f = .inactive then s.drOpens ⟨i.val, h⟩ else s.drCloses ⟨i.val, h⟩
  else if i = relInput then s.relChanged (f == .active)
  else s.lineChanged f

/-- The filtered level takes the raw sense when the filter has run (R69, R91). -/
def State.settleInput (s : State) (i : InputNo) : State :=
  if s.filterDue i then
    let f := s.sense i
    (s.modInput i fun r => { r with filtered := f }).handFiltered i f
  else s

/-- A change of the raw level at a pin; with width code 0 the filtered level follows at once (R69). -/
def State.rawChange (s : State) (i : InputNo) (l : PinLevel) : State :=
  if (s.input i).raw = l then s
  else
    let t := s.modInput i fun r => { r with raw := l, stableSince := s.now }
    if s.filterTime i = 0 then t.settleInput i else t

/-- An input's enable is set to off (R70, R81, R91). -/
def State.inputOff (s : State) (i : InputNo) : State :=
  let was := (s.input i).filtered
  let t := s.modInput i fun r => { r with filtered := .inactive }
  if h : i.val < 4 then t.doorOutOfUse ⟨i.val, h⟩
  else if was = .inactive then t
  else t.handFiltered i .inactive

/-- An input's enable is set to on: it settles as after device reset (R70, R81). -/
def State.inputOn (s : State) (i : InputNo) : State :=
  let t := s.modInput i fun r => { r with filtered := .unsettled, stableSince := s.now }
  let t := if h : i.val < 4 then t.doorInUse ⟨i.val, h⟩ else t
  t.settleInput i

/-- An input's polarity has changed (R70). -/
def State.polarityChanged (s : State) (i : InputNo) : State :=
  (s.modInput i fun r => { r with stableSince := s.now }).settleInput i

end Sys2Proof.Machine
end

