-- ==== Sys2Proof/Machine/Screen.lean ====
section
/-! DEFINITION. The Screen Controller (chapter 3): the handing on of a change, the computation of a front
frame, failsafe, the defrost cycle and its expiries. -/

namespace Sys2Proof.Machine

/-! ### Handing a change on (R63, R64) -/

/-- Film demand and screen part that the screen record calls for, the film barred by its latch (R52,
R64). -/
def State.screenDemands (s : State) : Nat × Nat :=
  (if s.sc.filmLatch then 0 else filmFor s.cfg s.sc.state s.sc.acting,
   partFor s.cfg s.sc.state s.sc.acting)

/-- Post the film member and the screen part together and record them (R64). -/
def State.postScreen (s : State) : State :=
  let d := s.screenDemands
  (s.modScreen fun r => { r with filmPosted := d.1, partPosted := d.2 }).postScreenParts d.1 d.2

/-- The Override Table at a change of the screen-air request: front AIR entries are suspended, or every
suspended entry becomes active again (R63, step 2; R163). -/
def State.airEntries (s : State) (request : Bool) : State :=
  s.mapEntries fun e =>
    if request then { e with suspended := e.suspended || e.airInFront s.cfg }
    else { e with suspended := false }

/-- The zones whose blower levels a screen change recomputes: every zone where the request changes (R42), and
the CAB at any other (R63, step 3). -/
def screenBlowers (changes : Bool) : List ZoneNo :=
  if changes then allZones else [0]

/-- The Override Table, where the request changes, and then the Zone Regulator, with the section air and the
blowers, at a change of the screen (R63, steps 2 and 3; R42, R46). -/
def State.screenHandsOn (s : State) (changes request : Bool) : State :=
  ((if changes then s.airEntries request else s).recomputeAir).setBlowers (screenBlowers changes)

/-- DEMIST-ACTIVE and DEMIST-ENTRY, when a demisting behaviour begins (R55). -/
def State.demistBegins (s : State) : State :=
  (s.raise .demistActive).signal .demistEntry none 1

/-- The screen record with a state and acting mode and the outputs of R52; the exit hold stops on an exit
from DEMIST (R54). -/
def ScreenRec.enter (st : ScreenState) (am : Option ActingMode) (r : ScreenRec) : ScreenRec :=
  { r with
    state := st, acting := am, flap := flapFor st am, airRequest := requestFor st am,
    exitHold := if st = .demist then r.exitHold else none }

/-- Take a state and acting mode and hand the change on (R63); nothing happens when neither changes.
DEDUCED, unsafe: notes/assumptions/19.md. -/
def State.changeScreen (s : State) (st : ScreenState) (am : Option ActingMode) : State :=
  if s.sc.state = st ∧ s.sc.acting = am then s
  else
    let t := s.modScreen (ScreenRec.enter st am)
    let t := t.screenHandsOn (requestFor st am != s.sc.airRequest) (requestFor st am)
    let t := t.postScreen
    if demists st am && !demists s.sc.state s.sc.acting then t.demistBegins else t

/-! ### Failsafe (R56 to R58) -/

/-- The acting mode that To calls for (R57). -/
def State.actingMode (s : State) : ActingMode :=
  actingFor s.st.outsideTemp

/-- Enter FAILSAFE, or set its acting mode (R56, R57). -/
def State.takeFailsafe (s : State) : State :=
  s.changeScreen .failsafe (some s.actingMode)

/-- A reselection of To that changes its value sets the acting mode of FAILSAFE (R57). -/
def State.actingOnTo (s : State) : State :=
  if s.sc.state = .failsafe then s.takeFailsafe else s

/-- The state that a margin dictates under the entry thresholds of the last computation (R53, R65). -/
def ScreenRec.dictated (r : ScreenRec) (m : Int) : ScreenState :=
  if r.mWatch ≤ m then .clear
  else if r.mOn ≤ m then .watch
  else .demist

/-- Tcab of a computation: the CAB Tz, or the CAB Ts when it is absent (R50). -/
def State.cabAir (s : State) : Int × TcabSource :=
  match (s.value (.air 0)).value with
  | some tz => (tz, .zone)
  | none => ((s.zone 0).ts, .setpoint)

/-- The dew estimate (R50). -/
def dewEstimate (tcab rh : Int) : Int :=
  tcab - 2 * (100 - rh)

/-- The dew estimate of a computation, absent unless RH and Tg are present (R50). -/
def State.dew (s : State) : Option Int :=
  match s.st.humidity.value, s.st.glass.value with
  | some rh, some _ => some (dewEstimate s.cabAir.1 rh)
  | _, _ => none

/-- The margin of a computation (R50). -/
def State.margin (s : State) : Option Int :=
  match s.dew, s.st.glass.value with
  | some td, some tg => some (tg - td)
  | _, _ => none

/-- Record the qualities of Tg and RH as handed (R49). -/
def State.takeQualities (s : State) : State :=
  let q := s.st
  s.modScreen fun r =>
    { r with tgQuality := q.glass.quality, rhQuality := q.humidity.quality }

/-- Compute and record Tcab, RH, Tg, Td and M with the qualities (R50). -/
def State.measure (s : State) : State :=
  let cab := s.cabAir
  let td := s.dew
  let m := s.margin
  let q := s.st
  s.takeQualities.modScreen fun r =>
    { r with tcab := cab.1, tcabSource := cab.2, rh := q.humidity.value, tg := q.glass.value,
             dew := td, margin := m }

/-- Whether a recorded quality is MISSING (R56). -/
def ScreenRec.sensorMissing (r : ScreenRec) : Bool :=
  r.tgQuality == .missing || r.rhQuality == .missing

/-- Whether both recorded qualities are FRESH (R58). -/
def ScreenRec.bothFresh (r : ScreenRec) : Bool :=
  r.tgQuality == .fresh && r.rhQuality == .fresh

/-- A computation of R50 uses the Mwatch and Mon of the working configuration, which then stand until the
next computation (R65). That the exit test of R58 at a quality change is no such computation is the model's
reading. DEDUCED, unsafe: notes/assumptions/34.md. -/
def State.takeThresholds (s : State) : State :=
  let c := s.cfg
  s.modScreen fun r => { r with mWatch := c.mWatch, mOn := c.mOn }

/-- The state that the recorded margin dictates; FAILSAFE where no margin is recorded. The thresholds are
those of the last computation (R61, R65). DEDUCED, unsafe: notes/assumptions/20.md. -/
def State.takeDictated (s : State) : State :=
  match s.sc.margin with
  | some m => s.changeScreen (s.sc.dictated m) none
  | none => s.takeFailsafe

/-- A change of the quality of Tg or RH outside a front frame is handed to the SC: recorded, with the
entry of R56 and the exit test of R58. DEDUCED, unsafe: notes/assumptions/20.md. -/
def State.onQuality (s : State) : State :=
  let t := s.takeQualities
  match t.sc.state with
  | .defrost => t
  | .failsafe => if t.sc.bothFresh then t.measure.takeDictated else t
  | .clear | .watch | .demist => if t.sc.sensorMissing then t.takeFailsafe else t

/-! ### The computation of a front frame (R50, R51, R53, R54, R60) -/

/-- The film over-temperature latch after a computation (R51). -/
def State.latchAfter (s : State) : Bool :=
  match s.sc.tg with
  | some tg =>
    if s.cfg.glassLimit < tg then true
    else if tg ≤ s.cfg.glassLimit - 50 then false
    else s.sc.filmLatch
  | none => s.sc.filmLatch

/-- The film's absorbed amount becomes 0, and the ES stages it (R111, R119).
DEDUCED, unsafe: notes/assumptions/20.md. -/
def State.dropFilmSurplus (s : State) : State :=
  match s.ownedSlot .screen with
  | some i => if s.absorbed i = 0 then s else (s.setAbsorbed i 0).stage
  | none => s

/-- The film over-temperature test (R51, R111). -/
def State.latchTest (s : State) : State :=
  let l := s.latchAfter
  if l = s.sc.filmLatch then s
  else
    let t := (s.modScreen fun r => { r with filmLatch := l }).postScreen
    if l then t.dropFilmSurplus else t

/-- The glass-target test of DEFROST (R60). -/
def State.glassTest (s : State) : State :=
  let hot :=
    match s.sc.tg with
    | some tg => decide (s.cfg.glassTarget ≤ tg)
    | none => false
  let t := s.after Config.glassTargetHold
  s.modScreen fun r =>
    { r with glassHold := if hot then (if r.glassHold.isSome then r.glassHold else t) else none }

/-- The exit hold of DEMIST at a computation (R54). -/
def State.exitHoldTest (s : State) (m : Int) : State :=
  let t := s.after (s.cfg.demistHold * 1000)
  let wide := decide (s.cfg.mOff ≤ m)
  s.modScreen fun r =>
    { r with exitHold := if wide then (if r.exitHold.isSome then r.exitHold else t) else none }

/-- The transitions of CLEAR, WATCH and DEMIST at a computation (R53, R54, R56). -/
def State.marginTest (s : State) : State :=
  if s.sc.sensorMissing then s.takeFailsafe
  else
    match s.sc.margin with
    | none => s
    | some m => if s.sc.state = .demist then s.exitHoldTest m else s.changeScreen (s.sc.dictated m) none

/-- FAILSAFE at a computation: the exit test, then the acting mode (R50, R57, R58). -/
def State.failsafeTest (s : State) : State :=
  if s.sc.bothFresh then s.takeDictated else s.takeFailsafe

/-- The computation of the SC after a front sample frame (R50). -/
def State.screenCompute (s : State) : State :=
  let t := s.measure.takeThresholds.latchTest
  match t.sc.state with
  | .defrost => t.glassTest
  | .failsafe => t.failsafeTest
  | .clear | .watch | .demist => t.marginTest

/-! ### The defrost cycle (R59 to R62) -/

/-- Enter DEFROST or restart the cycle (R59). -/
def State.enterDefrost (s : State) (origin : DefrostOrigin) (duration : Nat) : State :=
  let t := s.after (duration * 1000)
  (s.modScreen fun r =>
    { r with origin := origin, duration := duration, defrostTimer := t, glassHold := none,
             exitHold := none }).changeScreen .defrost none

/-- The cold-start decision on the first outside value (R60). -/
def State.coldStart (s : State) : State :=
  if s.sc.coldDecision = .taken then s
  else
    let t := s.modScreen fun r => { r with coldDecision := .taken }
    if t.cfg.coldStart ∧ t.st.outsideTemp < 0 ∧ t.sc.state ≠ .defrost then
      t.enterDefrost .coldStart t.cfg.defrostDuration
    else t

/-- The DEFROST entry leaves the Override Table without a notice (R61, step 2; R164). -/
def State.deleteDefrost (s : State) : State :=
  match s.defrostEntry with
  | some x => s.setEntry x.1 none
  | none => s

/-- The end of a defrost cycle with its cause (R61). -/
def State.endDefrost (s : State) (cause : DefrostEnd) : State :=
  let t := s.modScreen fun r =>
    { r with defrostTimer := none, glassHold := none, origin := .none, lastEnd := cause }
  let t := if s.sc.origin = .placed then t.deleteDefrost else t
  let t := t.raise .defrostDone
  if t.sc.sensorMissing then t.takeFailsafe else t.takeDictated

/-! ### Expiries -/

/-- The demist exit hold timer expires (R54). -/
def State.exitHoldExpiry (s : State) : State :=
  if s.sc.state = .demist ∧ due s.sc.exitHold s.now then s.changeScreen .watch none else s

/-- The defrost timer expires (R61). -/
def State.defrostExpiry (s : State) : State :=
  if s.sc.state = .defrost ∧ due s.sc.defrostTimer s.now then s.endDefrost .duration else s

/-- The glass-target hold timer expires (R61). -/
def State.glassHoldExpiry (s : State) : State :=
  if s.sc.state = .defrost ∧ due s.sc.glassHold s.now then s.endDefrost .glassTarget else s

end Sys2Proof.Machine
end

