-- ==== Sys2Proof/Machine/Overrides.lean ====
section
/-! DEFINITION. The Override Table (chapter 8): placement, removal and the handing on of changes; and the
form in which an owning block answers a request. -/

namespace Sys2Proof.Machine

/-! ### Answers of an owning block (R173, R192) -/

/-- The state after a request and its reply body, which opens with the status. -/
abbrev Answer := State × List Byte

/-- A reply with a status and the fields that follow it. -/
def State.reply (s : State) (st : Status) (fields : List Byte) : Answer :=
  (s, w8 st.code ++ fields)

/-- A refusal: no state changes, and the body is the status alone (R171, R192). -/
def State.refuse (s : State) (st : Status) : Answer :=
  s.reply st []

/-- DONE, or DONE-CLAMPED when a value was clamped. -/
def doneStatus (clamped : Bool) : Status :=
  if clamped then .doneClamped else .done

/-! ### Handing changes on (R158) -/

/-- The Screen Controller's step: a placed DEFROST enters or restarts the cycle; a cycle whose owning
entry has left the table ends CANCELLED (R158, step 1). `placed` holds the value of a DEFROST entry
just placed. -/
def State.handScreen (s : State) (placed : Option (Option Int)) : State :=
  match placed with
  | some v => s.enterDefrost .placed ((v.map Int.toNat).getD s.cfg.defrostDuration)
  | none =>
    if s.sc.state = .defrost ∧ s.sc.origin = .placed ∧ s.defrostEntry.isNone then
      s.endDefrost .cancelled
    else s

/-- The Zone Regulator's step: the OFF reason of each zone whose ZONE-OFF resolution changed (R158,
step 2), zone by zone with a posting of each. DESIGN CHOICE, unsafe: notes/assumptions/45.md. -/
def State.handZones (s before : State) : State :=
  (allZones.filter fun z => s.zoneOff z != before.zoneOff z).foldl State.takeOffReason s

/-- The Power Allocator's step: the clamp of each zone whose ZONE-OFF or ZONE-CAP resolution changed, with
one pass when a demand changed (R158, step 3). DESIGN CHOICE, unsafe: notes/assumptions/45.md. -/
def State.handClamps (s before : State) : State :=
  s.reclampZones (allZones.filter fun z =>
    s.zoneOff z != before.zoneOff z || s.zoneCap z != before.zoneCap z)

/-- The doors whose CURTAIN-OFF resolution changed. -/
def State.curtainsChanged (s before : State) : List DoorNo :=
  allDoors.filter fun d => s.curtainOff d != before.curtainOff d

/-- The Door Draft Controller's step: the curtain of each door whose CURTAIN-OFF resolution changed, then
a posting (R158, step 4). DESIGN CHOICE, unsafe: notes/assumptions/45.md. -/
def State.handCurtains (s before : State) : State :=
  match s.curtainsChanged before with
  | [] => s
  | d :: ds => ((d :: ds).foldl State.setCurtain s).postDoorParts

/-- Hand the changes of resolution since `before` on, steps 1 to 4 (R158). -/
def State.handOn (s before : State) (placed : Option (Option Int)) : State :=
  (((s.handScreen placed).handZones before).handClamps before).handCurtains before

/-! ### The checks of a placement (R153, R157) -/

/-- The source of a request by its port; POWER places nothing (R172). -/
def sourceOf : Port → Source
  | .desk => .desk
  | .power => .desk
  | .service => .service

def Source.index : Source → Nat
  | .desk => 0
  | .service => 1

/-- Whether a group meets the group condition of a kind (R153). -/
def groupCondition (c : Settings) (k : OverrideKind) (g : Fin 8) : Bool :=
  c.groupMask g != 0 &&
  match k with
  | .air => c.groupSection g == .front || c.groupSection g == .rear
  | _ => true

/-- Whether a kind accepts a target (R153, step 3). -/
def acceptsTarget (c : Settings) (k : OverrideKind) (t : Target) : Bool :=
  match k, t with
  | .setpointShift, .zone _ => true
  | .zoneOff, .zone _ => true
  | .zoneCap, .zone _ => true
  | .setpointShift, .group g => groupCondition c k g
  | .zoneOff, .group g => groupCondition c k g
  | .zoneCap, .group g => groupCondition c k g
  | .air, .group g => groupCondition c k g
  | .defrost, .screen => true
  | .curtainOff, .door _ => true
  | _, _ => false

/-- The range of a kind's value for a source; none for a kind without a value (R153). -/
def OverrideKind.range : OverrideKind → Source → Option (Int × Int)
  | .setpointShift, .desk => some (-50, 50)
  | .setpointShift, .service => some (-100, 100)
  | .zoneCap, _ => some (0, 120)
  | .air, _ => some (0, 100)
  | .defrost, _ => some (60, 1200)
  | .zoneOff, _ => none
  | .curtainOff, _ => none

/-- Whether a kind asks for a value: DEFROST may go without (R153, R193). -/
def OverrideKind.needsValue : OverrideKind → Bool
  | .setpointShift => true
  | .zoneCap => true
  | .air => true
  | .zoneOff => false
  | .defrost => false
  | .curtainOff => false

/-- A value field that may carry the absent code (R193). -/
def absentValue (x : Int) : Option Int :=
  if x = -32768 then none else some x

/-- The value an entry takes and whether a clamp changed it (R153, step 4). -/
def clampedValue (k : OverrideKind) (src : Source) (v : Option Int) : Option Int × Bool :=
  match k.range src, v with
  | some r, some x => (some (clampInt r.1 r.2 x), clampInt r.1 r.2 x != x)
  | _, _ => (none, false)

/-- The minutes to expiry, none for NONE, and whether they were clamped (R157, R193). -/
def expiryMinutes (c : Settings) (src : Source) (field : Nat) : Option Nat × Bool :=
  if field = 0 then (some c.driverExpiry, false)
  else if field = 0xFFFF then
    match src with
    | .desk => (some c.driverExpiry, true)
    | .service => (none, false)
  else (some (clampNat 1 240 field), clampNat 1 240 field != field)

/-- A placement that has passed the checks. -/
structure Placement where
  kind : OverrideKind
  target : Target
  source : Source
  value : Option Int
  minutes : Option Nat
  clamped : Bool
  deriving DecidableEq, Repr

/-- The checks of R153 in their order: the placement, or the status of the refusal. An absent value is
refused after the codes and before the target. DESIGN CHOICE, unsafe: notes/assumptions/42.md. -/
def State.checkPlacement (s : State) (p : Port) (body : List Byte) : Placement ⊕ Status :=
  let src := sourceOf p
  if u8 body 0 = 4 ∧ src = .service then .inr .refusedRole
  else
    match OverrideKind.ofCode? (u8 body 0), Target.ofCodes? (u8 body 1) (u8 body 2) with
    | some k, some t =>
      let v := absentValue (s16 body 3)
      if k.needsValue ∧ v = none then .inr .refusedMalformed
      else if !acceptsTarget s.cfg k t then .inr .refusedTarget
      else
        let cv := clampedValue k src v
        let m := expiryMinutes s.cfg src (u16 body 5)
        .inl { kind := k, target := t, source := src, value := cv.1, minutes := m.1,
               clamped := cv.2 || m.2 }
    | _, _ => .inr .refusedMalformed

/-! ### Placement (R155, R156) -/

/-- Where a placement goes, and the entry that it evicts (R156). -/
structure Place where
  slot : EntryNo
  evicted : Option Entry
  deriving DecidableEq, Repr

/-- The held entry with the kind, target and source of a placement (R156, step 1). -/
def State.heldTwin (s : State) (x : Placement) : Option EntryNo :=
  (s.entries.find? fun e =>
    e.2.kind == x.kind && e.2.target == x.target && e.2.source == x.source).map (·.1)

/-- The lowest-numbered empty slot (R156, step 2). -/
def State.emptySlot (s : State) : Option EntryNo :=
  (List.finRange 16).find? fun e => (s.entry e).isNone

/-- The SERVICE entry with the lowest placed sequence (R156, step 3). -/
def State.oldestService (s : State) : Option (EntryNo × Entry) :=
  (s.entries.filter fun e => e.2.source == .service).foldl (fun best x =>
    match best with
    | none => some x
    | some b => if x.2.seq < b.2.seq then some x else some b) none

/-- Where a placement goes; none when it is refused with REFUSED-FULL (R156). -/
def State.placeFor (s : State) (x : Placement) : Option Place :=
  match s.heldTwin x with
  | some e => some { slot := e, evicted := none }
  | none =>
    match s.emptySlot with
    | some e => some { slot := e, evicted := none }
    | none =>
      match x.source, s.oldestService with
      | .desk, some o => some { slot := o.1, evicted := some o.2 }
      | _, _ => none

/-- The entry of a placement; an AIR entry takes its state from the request and its group (R163). -/
def State.newEntry (s : State) (x : Placement) : Entry :=
  let e : Entry :=
    { kind := x.kind, target := x.target, value := x.value, source := x.source,
      expiry := x.minutes.map fun m => s.now + m * 60000, seq := s.ot.running, suspended := false }
  { e with suspended := s.sc.airRequest && e.airInFront s.cfg }

/-- The number of held entries whose placed sequence lies below one. -/
def State.seqRank (s : State) (q : Nat) : Nat :=
  (s.entries.filter fun e => decide (e.2.seq < q)).length

/-- Renumber the held entries from 0 in the order of their sequences (R155). -/
def State.renumber (s : State) : State :=
  let t := s.mapEntries fun e => { e with seq := s.seqRank e.seq }
  { t with ot := { t.ot with running := s.entries.length } }

/-- Raise the running number, or renumber once 65535 has been taken (R155). -/
def State.nextSequence (s : State) : State :=
  if s.ot.running = 65535 then s.renumber
  else { s with ot := { s.ot with running := s.ot.running + 1 } }

/-- Put an accepted placement into the table and count it (R155, R156).
DEDUCED, unsafe: notes/assumptions/21.md. -/
def State.putPlacement (s : State) (x : Placement) (at_ : EntryNo) : State :=
  ((s.setEntry at_ (some (s.newEntry x))).nextSequence).signal .overridePlaced
    (some x.source.index) 1

/-- Fields of the reply to a placement (R156, R193). -/
def placementReply (e : Entry) (x : Placement) (pl : Place) : List Byte :=
  w8 pl.slot.val ++ w16 e.seq ++ w16? (x.minutes.map (· * 60)) ++ wFlag e.suspended ++
    w8? (pl.evicted.map fun _ => pl.slot.val) ++ w8? (pl.evicted.map (·.kind.code))

/-- PLACE-OVERRIDE (R153, R156). -/
def State.placeOverride (s : State) (p : Port) (body : List Byte) : Answer :=
  match s.checkPlacement p body with
  | .inr st => s.refuse st
  | .inl x =>
    match s.placeFor x with
    | none => s.refuse .refusedFull
    | some pl =>
      let placed := if x.kind = .defrost then some x.value else none
      let t := (s.putPlacement x pl.slot).handOn s placed
      (t.raiseIf pl.evicted.isSome .overrideEvicted).reply (doneStatus x.clamped)
        (placementReply (s.newEntry x) x pl)

/-! ### Removal (R159 to R161) -/

/-- Empty a slot and hand the changes on. -/
def State.removeEntry (s : State) (e : EntryNo) : State :=
  (s.setEntry e none).handOn s none

/-- CANCEL-OVERRIDE (R160). -/
def State.cancelOverride (s : State) (p : Port) (body : List Byte) : Answer :=
  if h : u8 body 0 < 16 then
    match s.entry ⟨u8 body 0, h⟩ with
    | none => s.refuse .refusedTarget
    | some x =>
      if x.source ≠ sourceOf p then s.refuse .refusedRole
      else (s.removeEntry ⟨u8 body 0, h⟩).reply .done []
  else s.refuse .refusedMalformed

/-- The table without its DESK entries (R161). -/
def State.dropDesk (s : State) : State :=
  { s with ot := { s.ot with
    slots := mapV (fun x => x.filter fun e => e.source != .desk) s.ot.slots } }

/-- SHIFT-CHANGE (R161). -/
def State.shiftChange (s : State) : Answer :=
  (s.dropDesk.handOn s none).reply .done
    (w8 (s.entries.filter fun e => e.2.source == .desk).length)

/-- The expiry time of an entry (R159). -/
def State.entryExpiry (s : State) (e : EntryNo) : State :=
  match s.entry e with
  | none => s
  | some x => if due x.expiry s.now then (s.removeEntry e).raise .overrideExpired else s

/-! ### Group membership (R154, R163) -/

/-- A membership change of a group since `before`: the states of the AIR entries that name it while the
request is asserted, then the changes of resolution. -/
def State.groupChanged (s before : State) (g : Fin 8) : State :=
  let t :=
    if s.sc.airRequest then
      s.mapEntries fun e =>
        if e.kind = .air ∧ e.target = .group g then { e with suspended := e.airInFront s.cfg }
        else e
    else s
  t.handOn before none

end Sys2Proof.Machine
end

