-- ==== Sys2Proof/Machine/Samples.lean ====
section
/-! DEFINITION. The Sample Table (chapter 1.4): checking and entering samples, ageing, the outside
temperature in use, and what its readers are told. -/

namespace Sys2Proof.Machine

/-! ### Checking (R8, R9) -/

/-- A delivered value: a valid sample, or the rejection that makes it missing. -/
abbrev Checked := Int ⊕ Rejection

/-- The classing of a delivered temperature (R8). -/
def classTemp (lo hi : Int) (x : Half) : Checked :=
  let v := x.toInt
  if lo ≤ v ∧ v ≤ hi then .inl v
  else if v = -32768 then .inr .notFitted
  else if v = 32767 then .inr .sensorFault
  else .inr .outOfRange

/-- The classing of a delivered humidity (R9). -/
def classHumidity (x : Byte) : Checked :=
  if x.toNat = 255 then .inr .sensorFault else .inl (min x.toNat 100)

/-- The zones whose air sensors are on a node, in the order of the sample frame (R3, R195). -/
def nodeZones : Node → Vector ZoneNo 3
  | .front => #v[0, 1, 2]
  | .rear => #v[3, 4, 5]

/-- The values that a sample frame carries, checked; the rear frame's glass and humidity are ignored (R8,
R195). -/
def checkedFrame (n : Node) (b : SampleBody) : List (ValueId × Checked) :=
  let zs := nodeZones n
  let common : List (ValueId × Checked) :=
    [(.air zs[0], classTemp (-400) 800 b.air0), (.air zs[1], classTemp (-400) 800 b.air1),
     (.air zs[2], classTemp (-400) 800 b.air2), (.outside n, classTemp (-500) 600 b.outside)]
  match n with
  | .front =>
    common ++ [(.glass, classTemp (-500) 800 b.glass), (.humidity, classHumidity b.rh)]
  | .rear => common

/-! ### Entering a sample (R8, R10) -/

/-- The window of a zone after a valid sample (R10). -/
def pushWindow (w : List Int) (v : Int) : List Int :=
  (if 4 ≤ w.length then w.drop 1 else w) ++ [v]

/-- Tz of a window (R10). -/
def windowMean (w : List Int) : Int :=
  w.sum.tdiv w.length

/-- A record after a valid sample at `now`; `zone` says whether it keeps a window (R8, R10). -/
def ValueRec.valid (now : Nat) (zone : Bool) (v : Int) (r : ValueRec) : ValueRec :=
  let w := if zone then pushWindow r.window v else []
  { value := some (if zone then windowMean w else v)
    window := w
    lastValid := some now
    quality := .fresh
    rejection := .none }

/-- Whether a value is a zone's air. -/
def isAirValue : ValueId → Bool
  | .air _ => true
  | .outside _ => false
  | .glass => false
  | .humidity => false

/-- Enter one checked value (R8). -/
def State.enterSample (s : State) (x : ValueId × Checked) : State :=
  match x.2 with
  | .inl v => s.modValue x.1 (ValueRec.valid s.now (isAirValue x.1) v)
  | .inr why => s.modValue x.1 fun r => { r with rejection := why }

/-! ### Ageing (R11 to R13) -/

/-- A record that enters MISSING (R13). -/
def ValueRec.toMissing (r : ValueRec) : ValueRec :=
  { r with quality := .missing, value := none, window := [] }

/-- Whether a record's last valid sample is at least `secs` seconds old. -/
def ValueRec.agedTo (r : ValueRec) (secs now : Nat) : Bool :=
  match r.lastValid with
  | some t => decide (t + secs * 1000 ≤ now)
  | none => false

/-- Whether the hold timer of a record expires now: a degrade time not above the hold time leaves no
STALE span (R11). -/
def State.holdDue (s : State) (v : ValueId) : Bool :=
  (s.value v).quality == .fresh && (s.value v).agedTo s.cfg.sensorHold s.now &&
    decide (s.cfg.sensorHold < s.cfg.sensorDegrade)

/-- Whether the degrade timer of a record expires now (R11). -/
def State.degradeDue (s : State) (v : ValueId) : Bool :=
  (s.value v).quality != .missing && (s.value v).agedTo s.cfg.sensorDegrade s.now

/-- A record under the hold and degrade times in force (R12). -/
def ValueRec.retimed (hold degrade now : Nat) (r : ValueRec) : ValueRec :=
  if r.quality = .missing then r
  else if r.agedTo degrade now then r.toMissing
  else if r.agedTo hold now then { r with quality := .stale }
  else { r with quality := .fresh }

/-! ### Outside temperature in use (R15) -/

/-- The value of a record that is FRESH or STALE. -/
def ValueRec.usable (r : ValueRec) : Option Int :=
  if r.quality = .missing then none else r.value

/-- To and its source by R15. -/
def State.selectOutside (s : State) : Int × ToSource :=
  match s.st.outsideFront.usable with
  | some v => (v, .front)
  | none =>
    match s.st.outsideRear.usable with
    | some v => (v, .rear)
    | none => (s.cfg.fallbackOutside, .fallback)

/-- Reselect To (R15). -/
def State.reselect (s : State) : State :=
  let x := s.selectOutside
  { s with st := { s.st with outsideTemp := x.1, outsideSource := x.2 } }

/-- The readers of a change of To since `before`: the acting mode of FAILSAFE (R57), then the curtains
(R82). DESIGN CHOICE, unsafe: notes/assumptions/32.md. -/
def State.toReaders (s before : State) : State :=
  if s.st.outsideTemp = before.st.outsideTemp then s
  else s.actingOnTo.recomputeCurtains

/-- Whether the quality of Tg or RH differs between two states. -/
def State.screenQualityChanged (s before : State) : Bool :=
  s.st.glass.quality != before.st.glass.quality ||
    s.st.humidity.quality != before.st.humidity.quality

/-- Reselect To after a change of the records outside a frame, and tell the readers what changed: the Screen
Controller its qualities, then the readers of To (R15, R18). The Screen Controller takes its qualities before the new To,
and acts before the curtains. DESIGN CHOICE, unsafe: notes/assumptions/32.md. -/
def State.recordsChanged (s before : State) : State :=
  let t := s.reselect
  let u := if t.screenQualityChanged before then t.onQuality else t
  if t.st.outsideTemp = before.st.outsideTemp then u else u.actingOnTo.recomputeCurtains

/-! ### A sample frame (R8, R16, R18) -/

/-- Whether a frame carries a valid outside value. -/
def outsideValid (b : SampleBody) : Bool :=
  (classTemp (-500) 600 b.outside).isLeft

/-- The frame entered whole, To reselected and the first-outside marker set, before any reader is told
(R8, R15, R16). -/
def State.enterFrame (s : State) (n : Node) (b : SampleBody) : State :=
  let t := ((checkedFrame n b).foldl State.enterSample s).reselect
  { t with st := { t.st with firstOutside := t.st.firstOutside || outsideValid b } }

/-- The Screen Controller's own work on a frame: the computation for a front frame (R50), the acting mode
for a To that a rear frame moved (R57). -/
def State.screenOnFrame (s before : State) : Node → State
  | .front => s.screenCompute
  | .rear => if s.st.outsideTemp = before.st.outsideTemp then s else s.actingOnTo

/-- The Screen Controller on a frame that brings the first outside value: the value and its own work in
an order that the manual leaves open (chapter 3.11). -/
def State.screenOnFirst (s before : State) (n : Node) : State :=
  let t := s.tookFree
  if Config.freeFirstOutsideLeads s.freeCount then t.coldStart.screenOnFrame before n
  else (t.screenOnFrame before n).coldStart

/-- The Sample Table and its readers on a sample frame (R8, R16, R18). The Screen Controller acts before the
curtains. DESIGN CHOICE, unsafe: notes/assumptions/32.md. -/
def State.takeSamples (s : State) (n : Node) (b : SampleBody) : State :=
  let t := s.enterFrame n b
  let u :=
    if t.st.firstOutside && !s.st.firstOutside then t.screenOnFirst s n
    else t.screenOnFrame s n
  if t.st.outsideTemp = s.st.outsideTemp then u else u.recomputeCurtains

/-! ### Expiries and changed times -/

/-- The hold timer of a value expires (R11). -/
def State.holdExpiry (s : State) (v : ValueId) : State :=
  if s.holdDue v then
    (s.modValue v fun r => { r with quality := .stale }).recordsChanged s
  else s

/-- The degrade timer of a value expires (R11, R13). -/
def State.degradeExpiry (s : State) (v : ValueId) : State :=
  if s.degradeDue v then (s.modValue v ValueRec.toMissing).recordsChanged s else s

/-- The hold or degrade time has changed (R12). -/
def State.retime (s : State) : State :=
  (allValues.foldl (fun t v =>
    t.modValue v (ValueRec.retimed s.cfg.sensorHold s.cfg.sensorDegrade s.now)) s).recordsChanged s

/-- The fallback outside temperature has changed (R15). -/
def State.fallbackChanged (s : State) : State :=
  s.reselect.toReaders s

end Sys2Proof.Machine
end

