-- ==== Sys2Proof/Machine/Elements.lean ====
section
/-! DEFINITION. The Element Stager's own events (chapter 6): groups of elements leaving service, lockouts
and releases, the stage beat, and an element change under power (R188). -/

namespace Sys2Proof.Machine

/-! ### Leaving and returning to service (R117, R118) -/

/-- Some elements leave IN-SERVICE in one event: each is ordered off in its new state, their forced sheds
are signalled once, and the PA reclamps and takes one pass (R118). -/
def State.leaveTogether (s : State) (l : List SlotNo) (st : ElemState)
    (why : SlotNo → Option LockoutReason) : State :=
  let n := s.sheds l
  ((l.foldl (fun t i => t.leaveService i st (why i)) s).signalSheds n).availabilityChanged

/-- An element is released from a lockout (R130, R132). -/
def State.releaseElement (s : State) (i : SlotNo) (count : Nat) : State :=
  let st := s.returnState i
  (s.modElem i fun e =>
    { e with lockout := none, lockoutTimer := none, mismatch := 0, autoReleases := count,
             state := st }).availabilityChanged

/-- The lockout timer of an element expires (R130). -/
def State.lockoutExpiry (s : State) (i : SlotNo) : State :=
  if (s.elem i).state = .lockedOut ∧ due (s.elem i).lockoutTimer s.now then
    s.releaseElement i (capped Config.maxAutoReleases ((s.elem i).autoReleases + 1))
  else s

/-- ELEMENT-RELEASE (R132). -/
def State.elementRelease (s : State) (body : List Byte) : Answer :=
  if h : u8 body 0 < 24 then
    if (s.elem ⟨u8 body 0, h⟩).state = .lockedOut then
      (s.releaseElement ⟨u8 body 0, h⟩ 0).reply .done []
    else s.refuse .refusedState
  else s.refuse .refusedMalformed

/-! ### Echoes as the ES takes them (R129, R131) -/

/-- What an echo reports of one output: level and phase, as delivered (R195). -/
def echoLevel (b : EchoBody) (output : Nat) : Nat :=
  match index? 16 output with
  | some o => ((b.applied[o]).1 &&& 0x7F#8).toNat
  | none => 0

def echoPhase (b : EchoBody) (output : Nat) : Nat :=
  match index? 16 output with
  | some o => (b.applied[o]).2.toNat
  | none => 0

/-- Whether an echo reports an output's overheat flag set (R195). -/
def echoHot (b : EchoBody) (output : Nat) : Bool :=
  b.overheat.getLsbD output

/-- Whether what an echo reports differs from what an order carried for an element: OPEN or CLOSED for a
contactor, duty and phase for a modulated element (R131). DEDUCED, unsafe: notes/assumptions/18.md. -/
def State.mismatched (s : State) (b : EchoBody) (c : CarriedLevel) : Bool :=
  echoLevel b (s.slot c.slot).output != c.level ||
    ((s.slot c.slot).kind == .modulated && echoPhase b (s.slot c.slot).output != c.phase)

/-- Record the applied level and overheat flag of one element (R129). -/
def State.recordApplied (s : State) (b : EchoBody) (i : SlotNo) : State :=
  let o := (s.slot i).output
  s.modElem i fun e => { e with applied := some (echoLevel b o), overheat := echoHot b o }

/-- The lockout timer of an element that an echo reports hot: started at a lockout while the count is
below 3, restarted when it runs in an OVERHEAT lockout (R129). -/
def State.heatTimer (s : State) (i : SlotNo) : State :=
  let t := s.after Config.lockoutTime
  s.modElem i fun e =>
    match e.state, e.lockout with
    | .inService, _ =>
      { e with lockoutTimer := if e.autoReleases < Config.maxAutoReleases then t else none }
    | .lockedOut, some .overheat =>
      { e with lockoutTimer := if e.lockoutTimer.isSome then t else none }
    | _, _ => e

/-- The elements that an echo locks out with OVERHEAT (R129). -/
def State.overheated (s : State) (n : Node) (b : EchoBody) : List SlotNo :=
  (s.nodeSlots n).filter fun i => (s.elem i).state == .inService && echoHot b (s.slot i).output

/-- The mismatch run of one element after the comparison of R131; an element that is not IN-SERVICE or is
reported hot keeps its run. -/
def State.compareOne (s : State) (n : Node) (b : EchoBody) (c : CarriedLevel) : State :=
  if (s.nodeSlots n).contains c.slot && (s.elem c.slot).state == .inService &&
      !echoHot b (s.slot c.slot).output then
    let m := s.mismatched b c
    s.modElem c.slot fun e =>
      { e with mismatch := if m then capped Config.mismatchLimit (e.mismatch + 1) else 0 }
  else s

/-- The elements whose mismatch run a comparison has brought to 3 (R131). -/
def State.mismatchLimitReached (s : State) (n : Node) (carried : List CarriedLevel)
    (b : EchoBody) : List SlotNo :=
  (s.nodeSlots n).filter fun i =>
    (carried.any fun c => c.slot == i) && (s.elem i).state == .inService &&
      !echoHot b (s.slot i).output && decide (Config.mismatchLimit ≤ (s.elem i).mismatch)

/-- The ES on an echo of a node: applied levels and flags recorded, overheat lockouts, the comparison with
what the matched order carried (empty where none is made), mismatch lockouts; the elements locked out
leave service together, with ELEMENT-LOCKOUT (R129, R131). DEDUCED, unsafe: notes/assumptions/17.md. -/
def State.takeEcho (s : State) (n : Node) (b : EchoBody) (carried : List CarriedLevel) : State :=
  let hot := s.overheated n b
  let t := (s.nodeSlots n).foldl (fun t i => t.recordApplied b i) s
  let t := ((s.nodeSlots n).filter fun i => echoHot b (s.slot i).output).foldl State.heatTimer t
  let t := carried.foldl (fun t c => t.compareOne n b c) t
  let bad := t.mismatchLimitReached n carried b
  if hot.isEmpty && bad.isEmpty then t
  else
    (t.leaveTogether (hot ++ bad) .lockedOut fun i =>
      some (if hot.contains i then .overheat else .mismatch)).raise .elementLockout

/-! ### Node restart (R143) -/

/-- An element's record when its node reports a restart: applied off, run 0, and a contactor taken open
(R143, steps 1 and 2). -/
def ElemRec.restarted (now : Nat) (contactor : Bool) (e : ElemRec) : ElemRec :=
  let e := { e with applied := some 0, mismatch := 0 }
  if contactor then { e with closed := false, closedSince := none, openedSince := some now } else e

/-- The ES takes a node's outputs as off at a restart echo (R143, steps 1 to 3). -/
def State.nodeRestarted (s : State) (n : Node) : State :=
  let l := s.nodeSlots n
  let count := s.sheds (l.filter fun i => (s.slot i).kind == .contactor)
  (l.foldl (fun t i =>
    (t.dequeue i).modElem i (ElemRec.restarted s.now ((s.slot i).kind == .contactor))) s).signalSheds
      count

/-! ### The stage beat (R125 to R127) -/

/-- Order the head of the closure queue closed (R125). -/
def State.closeHead (s : State) : State :=
  match s.es.queue with
  | [] => s
  | i :: rest =>
    let t := (s.setQueue rest).modElem i fun e =>
      { e with closed := true, closedSince := some s.now, openedSince := none }
    t.signal .contactorClose
      (match (s.slot i).owner with
       | .zone z => some z.val
       | _ => none) 1

/-- The beat generator at a boundary: the counter, the lengths in force from a wrap on, the period-mark
lines and the timer (R126, R127). -/
def State.advanceBeat (s : State) : State :=
  let wrap := decide (Config.periodSlots ≤ s.es.slotCounter + 1)
  let counter := if wrap then 0 else s.es.slotCounter + 1
  let len := if wrap then s.cfg.slotLength else s.es.slotLength
  let mark := if wrap then s.cfg.markLength else s.es.markLength
  { s with es := { s.es with
      slotCounter := counter
      slotLength := len
      markLength := mark
      slotTimer := s.after len
      pmf := decide (counter < mark)
      pmr := decide (counter < mark) } }

/-- A beat-slot boundary (R125, R126). -/
def State.beat (s : State) : State :=
  if due s.es.slotTimer s.now then s.advanceBeat.closeHead else s

/-! ### Element changes under power (R188) -/

/-- An element that becomes ABSENT (R188). -/
def ElemRec.toAbsent (e : ElemRec) : ElemRec :=
  { e with state := .absent, lockout := none, lockoutTimer := none, autoReleases := 0,
           mismatch := 0, applied := none, overheat := false }

/-- The record of a slot made present, in the state it enters (R117, R188); a contactor counts its
minimum off-time from now. DEDUCED, unsafe: notes/assumptions/25.md. -/
def ElemRec.toPresent (now : Nat) (contactor : Bool) (st : ElemState) (e : ElemRec) : ElemRec :=
  { e.toAbsent with
    state := st, openedSince := if contactor then some now else none, closedSince := none }

/-- The state of a present element after a move to another node (R188). -/
def movedState (st ret : ElemState) : ElemState :=
  match st with
  | .inService => ret
  | .offline => ret
  | .lockedOut => .lockedOut
  | .absent => .absent

/-- The record of a present slot after its fields changed from `old` to `new`; `ret` is the state that the
new node gives (R188). -/
def ElemRec.refit (now : Nat) (old new : SlotCfg) (ret : ElemState) (e : ElemRec) : ElemRec :=
  let moved := old.node ≠ new.node
  let e :=
    if moved ∨ old.output ≠ new.output then { e with applied := none, mismatch := 0 } else e
  let e := if moved then { e with state := movedState e.state ret } else e
  if old.kind = new.kind then e
  else { e with openedSince := if new.kind = .contactor then some now else none }

/-- The element record after a change, and the element taken off first (R188). -/
def State.applyElement (s : State) (i : SlotNo) (old new : SlotCfg) : State :=
  match old.present, new.present with
  | false, false => s
  | false, true =>
    let ret := s.returnState i
    s.modElem i (ElemRec.toPresent s.now (new.kind == .contactor) ret)
  | true, false => ((s.takeOff i).modElem i ElemRec.toAbsent).setAbsorbed i 0
  | true, true =>
    let ret := s.returnState i
    let t := (s.takeOff i).modElem i (ElemRec.refit s.now old new ret)
    if (t.elem i).state = .inService then t else t.setAbsorbed i 0

/-- The owner of a curtain or screen slot reposts (R64, R82, R84, R188). -/
def State.ownerReposts (s : State) : Owner → State
  | .screen => s.postScreen
  | .curtain d => (s.setCurtain d).postDoorParts
  | .zone _ => s

/-- The owners of the old and the new slot repost, the old one first, once when they are the same. DESIGN
CHOICE, unsafe: notes/assumptions/48.md. -/
def State.ownersRepost (s : State) (old new : SlotCfg) : State :=
  let t := s.ownerReposts old.owner
  if old.owner = new.owner then t else t.ownerReposts new.owner

/-- A change of the configuration fields of a slot, already in the working configuration, from `old`
(R188). -/
def State.elementChanged (s : State) (i : SlotNo) (old : SlotCfg) : State :=
  let new := s.slot i
  if !old.present && !new.present then s
  else
    let n := if old.present then s.sheds [i] else 0
    (((s.applyElement i old new).signalSheds n).availabilityChanged).ownersRepost old new

end Sys2Proof.Machine
end

