-- ==== Sys2Proof/Machine/Links.lean ====
section
/-! DEFINITION. The Node Link Controller (chapter 7): the ordered state and the orders, link states, echoes
and their timeouts, frame errors, and the settling of the orders at the end of every event. -/

namespace Sys2Proof.Machine

/-! ### The ordered state and the order frame (R138, R195) -/

/-- The present slot that holds an output of a node. -/
def State.outputSlot (s : State) (n : Node) (o : Nat) : Option SlotNo :=
  (s.nodeSlots n).find? fun i => (s.slot i).output == o

/-- Ordered level of an element: 0 OPEN or 1 CLOSED, or the duty (R116). -/
def State.orderedLevel (s : State) (i : SlotNo) : Nat :=
  if (s.slot i).kind = .contactor then (s.elem i).closed.toNat else (s.elem i).duty

/-- Phase that an order carries for an element, 0 for a contactor (R195). -/
def State.orderedPhase (s : State) (i : SlotNo) : Nat :=
  if (s.slot i).kind = .contactor then 0 else (s.slot i).phase

/-- The two bytes of a heater output in an order (R195). -/
def State.outputBytes (s : State) (n : Node) (o : Nat) : List Byte :=
  match s.outputSlot n o with
  | some i =>
    w8 ((if (s.slot i).kind = .modulated then 128 else 0) + s.orderedLevel i) ++
      w8 (s.orderedPhase i)
  | none => [0, 0]

/-- The doors whose curtain blowers a node carries (R138). -/
def nodeDoors (n : Node) : List DoorNo :=
  allDoors.filter fun d => doorNode d == n

/-- The blowers, damper and flap that an order carries; the rear flap is sent as 0 (R138, R195). -/
def State.airBytes (s : State) (n : Node) : List Byte :=
  ((nodeZones n).toList.flatMap fun z => w8 (s.zone z).blower) ++
    ((nodeDoors n).flatMap fun d => w8 (s.door d).curtainBlower.code) ++
    w8 (s.air n).commanded ++
    w8 (match n with
        | .front => s.sc.flap.code
        | .rear => 0)

/-- The body of an order: the node's whole output state (R138, R195). -/
def State.orderBody (s : State) (n : Node) : List Byte :=
  ((List.range 16).flatMap (s.outputBytes n)) ++ s.airBytes n

/-- The level of an output as a change of ordered state sees it: off is one value whatever slot holds the
output, and the phase is not looked at (R138; R128: a phase is carried in the next order). -/
def State.levelMark (s : State) (n : Node) (o : Nat) : Nat :=
  match s.outputSlot n o with
  | some i =>
    if s.orderedLevel i = 0 then 0
    else (if (s.slot i).kind = .modulated then 128 else 0) + s.orderedLevel i
  | none => 0

/-- What a change of ordered state is a change of (R138). DEDUCED, unsafe: notes/assumptions/14.md. -/
def State.orderedState (s : State) (n : Node) : List Nat × List Byte :=
  ((List.range 16).map (s.levelMark n), s.airBytes n)

/-- The levels that an order carries for the node's elements (R136). -/
def State.carriedLevels (s : State) (n : Node) : List CarriedLevel :=
  (s.nodeSlots n).map fun i =>
    { slot := i, level := s.orderedLevel i, phase := s.orderedPhase i }

/-! ### Sending (R139) -/

/-- The next order number, from 7 wrapping to 0. -/
def nextOrder (k : OrderNo) : OrderNo :=
  k + 1

/-- Send an order now (R139). -/
def State.sendOrder (s : State) (n : Node) : State :=
  let body := s.orderBody n
  let levels := s.carriedLevels n
  let timeout := s.now + s.cfg.echoTimeout
  let spacing := s.after Config.orderSpacing
  let interval := s.after s.cfg.orderInterval
  s.modLink n fun k =>
    { k with
      window := k.window ++
        [{ number := k.nextNumber, sentAt := s.now, timeout := timeout, levels := levels }]
      nextNumber := nextOrder k.nextNumber
      pendingMarker := false
      spacingTimer := spacing
      orderTimer := interval
      lastOrder := frameBytes 0x40#8 (BitVec.ofNat 8 k.nextNumber.val) body }

/-- Whether a link may send: room in the window, and the spacing timer stopped (R139). -/
def State.maySend (s : State) (n : Node) : Bool :=
  decide ((s.link n).window.length < s.cfg.windowSize) && (s.link n).spacingTimer.isNone

/-- Send the order that is due or pending, or keep it pending (R139). -/
def State.sendDue (s : State) (n : Node) : State :=
  if (s.link n).pendingMarker && s.maySend n then s.sendOrder n else s

/-- A changed ordered state makes an order due (R138, R139). -/
def State.markChange (s before : State) (n : Node) : State :=
  let changed := s.orderedState n != before.orderedState n
  s.modLink n fun k => { k with pendingMarker := k.pendingMarker || changed }

/-- The links at the end of an event that began at `before`: an order is due where the ordered state has
changed, and each due or pending order is sent as soon as it may be (R139).
DEDUCED, unsafe: notes/assumptions/15.md. -/
def State.settle (s before : State) : State :=
  let t := (s.markChange before .front).markChange before .rear
  (t.sendDue .front).sendDue .rear

/-- The order interval timer expires: an order is due (R139). -/
def State.intervalExpiry (s : State) (n : Node) : State :=
  if due (s.link n).orderTimer s.now then
    s.modLink n fun k => { k with orderTimer := none, pendingMarker := true }
  else s

/-- The spacing timer expires (R139). -/
def State.spacingExpiry (s : State) (n : Node) : State :=
  if due (s.link n).spacingTimer s.now then s.modLink n fun k => { k with spacingTimer := none }
  else s

/-! ### Link states (R144 to R147) -/

/-- An UP link becomes LOST (R145). -/
def State.linkLost (s : State) (n : Node) : State :=
  let held := s.drawOf (s.nodeSlots n)
  let timer := s.after Config.releaseInterval
  let t := s.modLink n fun k =>
    { k with heldDraw := held, heldTimer := timer, state := .lost, lostTime := some s.now,
             validRun := 0 }
  let l := (t.nodeSlots n).filter fun i => (t.elem i).state == .inService
  (t.leaveTogether l .offline fun _ => none).raise .nodeLost

/-- A contactor's record at a relink: taken open since the loss (R147, step 3). The lost time replaces a
later restart time too. DEDUCED, unsafe: notes/assumptions/40.md. -/
def ElemRec.relinked (lost : Option Nat) (contactor : Bool) (e : ElemRec) : ElemRec :=
  let e :=
    if contactor then
      { e with applied := some 0, closed := false, closedSince := none, openedSince := lost }
    else e
  if e.state = .offline then { e with state := .inService } else e

/-- A LOST link becomes UP (R147). -/
def State.relink (s : State) (n : Node) : State :=
  let lost := (s.link n).lostTime
  let t := s.modLink n fun k =>
    { k with heldDraw := 0, heldTimer := none, state := .up, echoMiss := 0 }
  let t := (t.nodeSlots n).foldl (fun t i =>
    t.modElem i (ElemRec.relinked lost ((t.slot i).kind == .contactor))) t
  t.availabilityChanged.raise .nodeBack

/-- A DOWN link becomes UP (R147). -/
def State.firstUp (s : State) (n : Node) : State :=
  (s.modLink n fun k => { k with state := .up, echoMiss := 0 }).allocationPass

/-- The link state at a valid-frame run of 3 (R144). -/
def State.runReached (s : State) (n : Node) : State :=
  match (s.link n).state with
  | .down => s.firstUp n
  | .lost => s.relink n
  | .up => s

/-- What every valid frame does to its link (R137, R144). -/
def State.validFrame (s : State) (n : Node) : State :=
  let silence := s.after s.cfg.nodeSilence
  let t := s.modLink n fun k =>
    { k with lastValid := some s.now, silenceTimer := silence,
             validRun := capped Config.framesForUp (k.validRun + 1) }
  if Config.framesForUp ≤ (t.link n).validRun then t.runReached n else t

/-- The silence timer expires (R144). -/
def State.silenceExpiry (s : State) (n : Node) : State :=
  if due (s.link n).silenceTimer s.now then
    let t := s.modLink n fun k => { k with silenceTimer := none }
    if (t.link n).state = .up then t.linkLost n else t
  else s

/-- The silence limit has changed: the timers move, and an UP link that is already that silent becomes
LOST (R149). -/
def State.silenceRetimed (s : State) (n : Node) : State :=
  let limit := s.cfg.nodeSilence
  (s.modLink n fun k =>
    { k with silenceTimer :=
        if k.silenceTimer.isSome then k.lastValid.map (· + limit) else none }).silenceExpiry n

/-- The held-draw timer expires (R146). -/
def State.heldDrawExpiry (s : State) (n : Node) : State :=
  if due (s.link n).heldTimer s.now then
    s.modLink n fun k => { k with heldDraw := 0, heldTimer := none }
  else s

/-! ### Echoes (R140 to R143) -/

/-- Position of a node in an event's qualifier (R181). -/
def nodeQualifier (n : Node) : Option Nat :=
  some n.code

/-- Remove the matched order with every older one (R141). -/
def afterNumber (number : Nat) : List OrderEntry → List OrderEntry
  | [] => []
  | e :: rest => if e.number.val = number then rest else afterNumber number rest

/-- The outstanding order that an echo's tag answers (R141). -/
def LinkCtx.matching (k : LinkCtx) (tag : Byte) : Option OrderEntry :=
  k.window.find? fun e => e.number.val == tag.toNat

/-- A late echo is counted and latched (R141). -/
def State.lateEcho (s : State) (n : Node) : State :=
  (s.modLink n fun k =>
    { k with lateEchoes := capped 65535 (k.lateEchoes + 1),
             latch := { k.latch with late := true } }).signal .lateEcho (nodeQualifier n) 1

/-- An echo with every output off. -/
def EchoBody.outputsOff (b : EchoBody) : EchoBody :=
  { b with applied := Vector.replicate 16 (0, 0) }

/-- The restart record of a link and the ES's part, for an echo with the node-restarted flag: the outputs taken
as off, then the echo's overheat flags with their lockouts (R143, steps 1 to 4). DEDUCED, unsafe:
notes/assumptions/18.md. -/
def State.restartEcho (s : State) (n : Node) (b : EchoBody) : State :=
  ((s.modLink n fun k =>
    { k with restarts := capped 255 (k.restarts + 1), lastRestart := some s.now }).nodeRestarted
      n).takeEcho n b.outputsOff []

/-- An echo taken for the window and handed to the ES; the levels are compared for a matched echo without
the restart flag (R131, R141, R143). -/
def State.windowEcho (s : State) (n : Node) (tag : Byte) (b : EchoBody) : State :=
  match (s.link n).matching tag with
  | some e =>
    (s.modLink n fun k => { k with window := afterNumber tag.toNat k.window }).takeEcho n b
      (if b.restarted then [] else e.levels)
  | none => (s.lateEcho n).takeEcho n b []

/-- A valid echo: the frame for its link, the restart whole where the flag is set, then the window (R137, R141,
R143). -/
def State.takeValidEcho (s : State) (n : Node) (tag : Byte) (b : EchoBody) : State :=
  let t := (s.validFrame n).modLink n fun k => { k with echoMiss := 0 }
  let t := if b.restarted then t.restartEcho n b else t
  t.windowEcho n tag b

/-- A valid sample frame: the link first, then the Sample Table (R8, R137). -/
def State.takeSampleFrame (s : State) (n : Node) (b : SampleBody) : State :=
  (s.validFrame n).takeSamples n b

/-- Whether the echo timeout of an outstanding order expires now (R140). -/
def State.timeoutDue (s : State) (n : Node) (k : OrderNo) : Bool :=
  (s.link n).window.any fun e => e.number == k && decide (e.timeout ≤ s.now)

/-- The echo timeout of an outstanding order expires (R140). -/
def State.echoTimeout (s : State) (n : Node) (k : OrderNo) : State :=
  if s.timeoutDue n k then
    let t := s.modLink n fun c =>
      { c with
        window := c.window.filter fun e => e.number != k
        echoMiss := capped 255 (c.echoMiss + 1)
        latch := { c.latch with timeout := true } }
    let t := t.signal .echoMiss (nodeQualifier n) 1
    if (t.link n).state = .up ∧ Config.missesForLost ≤ (t.link n).echoMiss then t.linkLost n else t
  else s

/-! ### Frame errors (R148) -/

/-- A class in the link-error latch. -/
def LinkErrors.add (e : LinkErrors) : LinkFault → LinkErrors
  | .check => { e with check := true }
  | .length => { e with length := true }
  | .kind => { e with kind := true }

/-- The frame-error window with an error at `now` (R148, step 4). -/
def errorWindowAt (now : Nat) (w : List Nat) : List Nat :=
  (w.filter fun t => decide (now < t + 1000)) ++ [now]

/-- A frame error (R148). -/
def State.frameError (s : State) (n : Node) (fault : LinkFault) : State :=
  let t := s.modLink n fun k =>
    { k with frameErrors := capped 65535 (k.frameErrors + 1), latch := k.latch.add fault,
             validRun := 0 }
  let t := t.signal .nodeFrameError (nodeQualifier n) 1
  let w := errorWindowAt t.now (t.link n).errorWindow
  if Config.errorsForNotice ≤ w.length then
    (t.modLink n fun k => { k with errorWindow := [] }).raise .linkErrors
  else t.modLink n fun k => { k with errorWindow := w }

/-! ### A frame from a node (R137) -/

/-- What a frame from a node does, by what it is judged to be (R137). -/
def State.nodeArrival (s : State) (n : Node) : NodeArrival → State
  | .echo tag b => s.takeValidEcho n tag b
  | .sample b => s.takeSampleFrame n b
  | .fault f => s.frameError n f

end Sys2Proof.Machine
end

