-- ==== Sys2Proof/Machine/Store.lean ====
section
/-! DEFINITION. The Configuration Store (chapter 11): SET-CONFIG with the handing of each item to its owner,
storing, restoring, and device reset. -/

namespace Sys2Proof.Machine

/-! ### What a changed item does at once -/

/-- Imax has changed: every integrator is clamped and its term recomputed (R40). -/
def State.imaxChanged (s : State) : State :=
  s.mapZones fun z =>
    let i := clampInteg s.cfg.imax z.integ
    { z with integ := i, iTerm := integralTerm i }

/-- Bd of a door has changed: an OPEN door takes it, and the DDC reposts (R84, R85, R88).
DEDUCED, unsafe: notes/assumptions/24.md. -/
def State.boostChanged (s : State) (d : DoorNo) : State :=
  (s.modDoor d fun r =>
    if r.state = .open then { r with level := s.cfg.bd[d] } else r).postDoorParts

/-- The held limit has changed for one door: an OPEN door's timer moves, and an opening already that long
enters HELD (R76). -/
def State.heldRetimed (s : State) (d : DoorNo) : State :=
  if (s.door d).state = .open then
    (s.modDoor d fun r =>
      { r with heldTimer := r.openStart.map (· + s.cfg.heldLimit * 1000) }).heldExpiry d
  else s

/-- The dewire threshold has changed: the timer of a running gap moves, and a gap already that old becomes
DEWIRED (R93). -/
def State.dewireRetimed (s : State) : State :=
  if s.pa.line = .gap then
    ({ s with pa := { s.pa with
        dewireTimer := s.pa.gapStart.map (· + s.cfg.dewireThreshold * 1000) } }).dewireExpiry
  else s

/-- The fallback envelope has changed: in LAPSED it acts at once (R95). -/
def State.fallbackEnvelopeChanged (s : State) : State :=
  if s.pa.envState = .lapsed then
    (s.setEnvelope s.cfg.fallbackEnvelope .lapsed s.pa.envTimer).allocationPass
  else s

/-- The state as it was before one item changed. -/
def State.withItem (s : State) (it : Item) (v : Int) : State :=
  { s with cs := { s.cs with work := s.cs.work.put it v } }

/-- Items whose owner acts on a change of value alone. DEDUCED, unsafe: notes/assumptions/23.md. -/
def Item.actsOnChange : Item → Bool
  | .sensorHold | .sensorDegrade | .presence _ | .node _ | .output _ | .owner _ | .kind _
  | .rating _ | .enable _ | .polarity _ | .width _ | .group _ => true
  | _ => false

/-- Hand a changed item to its owner, which applies it at the moment its chapter states (R187); `before` is
the state with the item's old value. An item that is not listed is read at its owner's next use. Of two
links that a new silence limit loses, the front one goes first, and of several doors that a new held limit
moves, door 1. DESIGN CHOICE, unsafe: notes/assumptions/41.md, notes/assumptions/44.md. -/
def State.handItem (s before : State) (it : Item) : State :=
  match it with
  | .sensorHold => s.retime
  | .sensorDegrade => s.retime
  | .fallbackOutside => s.fallbackChanged
  | .weight _ _ => s.postDoorParts
  | .presence i => s.elementChanged i (before.slot i)
  | .node i => s.elementChanged i (before.slot i)
  | .output i => s.elementChanged i (before.slot i)
  | .owner i => s.elementChanged i (before.slot i)
  | .kind i => s.elementChanged i (before.slot i)
  | .rating i => s.elementChanged i (before.slot i)
  | .imax => s.imaxChanged
  | .demistFloor => s.recomputeAir
  | .filmShare => s.postScreen
  | .qDemist => s.postScreen
  | .qDefrost => s.postScreen
  | .enable i => if s.cfg.inputs[i].enable then s.inputOn i else s.inputOff i
  | .polarity i => s.polarityChanged i
  | .width i => s.settleInput (doorInputNo i)
  | .bd d => s.boostChanged d
  | .heldLimit => allDoors.foldl State.heldRetimed s
  | .curtainThreshold => s.recomputeCurtains
  | .heldShare => s.recomputeCurtains
  | .dropFilter => s.settleInput lineInput
  | .restoreFilter => s.settleInput lineInput
  | .dewireThreshold => s.dewireRetimed
  | .fallbackEnvelope => s.fallbackEnvelopeChanged
  | .quota _ => s.allocationPass
  | .nodeSilence => (s.silenceRetimed .front).silenceRetimed .rear
  | .group g => s.groupChanged before g
  | _ => s

/-- The effect of an item whose working value has been replaced, `old` being its value before. -/
def State.itemSet (s : State) (it : Item) (old : Int) : State :=
  if it.actsOnChange && s.cfg.get it == old then s else s.handItem (s.withItem it old) it

/-! ### SET-CONFIG (R187) -/

/-- The status of a refused SET-CONFIG, or the item with its clamped value. -/
def State.checkConfig (s : State) (body : List Byte) : (Item × Int) ⊕ Status :=
  match Item.ofCodes? (u8 body 0) (u8 body 1) with
  | none => .inr .refusedMalformed
  | some it =>
    if !s.cfg.accepts it (s32 body 2) then .inr .refusedMalformed
    else if it.fixedGroup then .inr .refusedTarget
    else .inl (it, it.clamp (s32 body 2))

/-- SET-CONFIG (R187). -/
def State.setConfig (s : State) (body : List Byte) : Answer :=
  match s.checkConfig body with
  | .inr st => s.refuse st
  | .inl x =>
    let t := (s.withItem x.1 x.2).itemSet x.1 (s.cfg.get x.1)
    t.reply (doneStatus (x.2 != s32 body 2))
      (w8 (u8 body 0) ++ w8 (u8 body 1) ++ w32 (t.cfg.get x.1))

/-! ### Storing and restoring (R189) -/

/-- STORE-CONFIG (R189). While the write runs the non-volatile copy fails its check; what it holds
meanwhile is a free value. -/
def State.storeConfig (s : State) : Answer :=
  if s.cs.storeState = .storing then s.refuse .refusedState
  else
    State.reply
      { s.tookFree with cs := { s.cs with
          storeState := .storing
          snapshot := some s.cfg
          nonVolatileGood := false
          nonVolatile := (Config.freeCopy s.freeCount).value
          storeStart := s.now } }
      .accepted []

/-- The end of a store's write (R189): the copy holds the snapshot, or after FAILED a free value that fails
its check. -/
def State.storeEnds (s : State) (readBackMatches : Bool) : State :=
  match s.cs.storeState, s.cs.snapshot with
  | .storing, some snap =>
    let t := { s.tookFree with cs := { s.cs with
      storeState := .idle
      snapshot := none
      lastStore := if readBackMatches then .ok else .failed
      nonVolatile := if readBackMatches then snap else (Config.freeCopy s.freeCount).value
      nonVolatileGood := readBackMatches } }
    t.raise .storeDone
  | _, _ => s

/-- RESTORE-DEFAULTS: every item at its factory default in one event, with the closure queue in the order of
the owners that it gives (R124), then each item that changed handed to its owner, in item order (R189).
DESIGN CHOICE, unsafe: notes/assumptions/22.md. -/
def State.restoreDefaults (s : State) : State :=
  let changed := allItems.filter fun it => s.cfg.get it != factory.get it
  let t := { s with cs := { s.cs with work := factory } }
  changed.foldl (fun t it => t.itemSet it (s.cfg.get it))
    (if changed.isEmpty then t else t.orderQueue)

/-! ### Device reset (R190) -/

/-- The input records at the end of reset: the raw levels are read, nothing is settled (R70, R91). -/
def State.resetInputs (s : State) : Vector InputRec 6 :=
  mapV (fun r => InputRec.reset s.now r.raw) s.ic

/-- Every block's record after device reset under a loaded configuration (R190). The time base, the pins,
the non-volatile copy and the waiting commands are not the reset's to change. -/
def State.blocksReset (s : State) (c : Settings) (load : LoadResult) : State where
  now := s.now
  st := SampleTable.reset c
  zr := ZoneRegulator.reset c s.now
  sc := ScreenRec.reset c
  ic := s.resetInputs
  ddc := DoorController.reset c s.now
  ot := OverrideTable.reset
  pa := PowerAllocator.reset s.now
  es := ElementStager.reset c s.now
  nlc := LinkController.reset c s.now
  ac := Vector.replicate 8 CounterRec.reset
  cs := { s.cs with
    work := c, storeState := .idle, snapshot := none, lastStore := .none, load := load }
  mpu := PortUnit.reset
  freeCount := s.freeCount
  pending := s.pending

/-- The end of reset: the posts, the settling of inputs without a filter, and CONFIG-DEFAULTED (R190). The
inputs settle after the posts, DR1 to DR4 and then REL. DESIGN CHOICE, unsafe: notes/assumptions/44.md. -/
def State.endOfReset (s : State) : State :=
  let t := (s.raiseIf (s.cs.load == .defaulted) .configDefaulted).postScreen.postDoorParts
  ((List.finRange 5).map doorInputNo).foldl (fun t i =>
    if t.filterTime i = 0 then t.settleInput i else t) t

/-- Whether the non-volatile copy passes at device reset (R190). -/
def ConfigStore.copyPasses (c : ConfigStore) : Bool :=
  c.nonVolatileGood && c.nonVolatile.valid

/-- Device reset (R190); the links' first orders are sent when the event settles (R151). -/
def State.deviceReset (s : State) : State :=
  if s.cs.copyPasses then (s.blocksReset s.cs.nonVolatile .loaded).endOfReset
  else (s.blocksReset factory .defaulted).endOfReset

end Sys2Proof.Machine
end

