-- ==== Sys2Proof/Machine/Readout.lean ====
section
/-! DEFINITION. READ-OBJECT (R174): the records of R194, field by field in the order that it lists them. -/

namespace Sys2Proof.Machine

/-! ### Fields of a record -/

/-- An amount of time in some unit of ms, truncated and capped at 65535; absent stays absent. -/
def inUnits (unit : Nat) (t : Option Nat) : List Byte :=
  w16? (t.map fun x => capped 65535 (x / unit))

/-- Time since a moment, in a unit of ms. -/
def State.ageField (s : State) (unit : Nat) (t : Option Nat) : List Byte :=
  inUnits unit (s.since t)

/-- Remaining time of a timer, in a unit of ms. -/
def State.leftField (s : State) (unit : Nat) (t : Timer) : List Byte :=
  inUnits unit (s.left t)

/-- A fixed number of list entries, the unused ones filled. -/
def padded {α : Type} (n : Nat) (f : α → List Byte) (blank : List Byte) (l : List α) : List Byte :=
  (List.range n).flatMap fun i =>
    match l[i]? with
    | some x => f x
    | none => blank

/-! ### Sample Table fields (R19) -/

/-- Value, quality, age and last rejection of a temperature record. -/
def State.tempRecord (s : State) (v : ValueId) : List Byte :=
  wSigned? (s.value v).value ++ w8 (s.value v).quality.code ++
    s.ageField 100 (s.value v).lastValid ++ w8 (s.value v).rejection.code

/-- The humidity record, its value in one byte. -/
def State.humidityRecord (s : State) : List Byte :=
  w8? ((s.value .humidity).value.map Int.toNat) ++ w8 (s.value .humidity).quality.code ++
    s.ageField 100 (s.value .humidity).lastValid ++ w8 (s.value .humidity).rejection.code

/-- ZONE n (R19, R47). Tz and its quality are those of the Sample Table now, not those of the last pass.
DEDUCED, unsafe: notes/assumptions/33.md. -/
def State.zoneRecord (s : State) (z : ZoneNo) : List Byte :=
  let v := s.value (.air z)
  let r := s.zone z
  wSigned? v.value ++ w8 v.quality.code ++ w8 v.window.length ++
    padded 4 (fun x : Int => w16 x) (w16 0x8000) v.window ++
    s.ageField 100 v.lastValid ++ w8 v.rejection.code ++
    w16 r.ts ++ wSigned? r.err ++ w16 r.prop ++ w16 r.integ ++ w16 r.iTerm ++ w16 r.feed ++
    w8 r.hb ++ w8 r.quantHb ++ wFlag r.upperStop ++ wFlag r.lowerStop ++ w8 r.reasons.mask ++
    w8 r.state.code ++ w16 r.lastBaseGrant ++ w8 r.lastPosted ++ wFlag r.shortfall ++ w8 r.blower

/-- SECTION-AIR n (R19, R47): the nine listed fields, then the tenth byte that R194 counts and does not
describe. The request is 1 while asserted. DEDUCED, unsafe: notes/assumptions/27.md. -/
def State.airRecordBytes (s : State) (n : Node) : List Byte :=
  let a := s.air n
  w16 s.st.outsideTemp ++ w8 s.st.outsideSource.code ++ w8 a.normalFresh ++ w8? a.resolvedAir ++
    w8 a.source.code ++ w8 a.commanded ++
    (match n with
     | .front => w8 s.sc.flap.code ++ wFlag s.sc.airRequest
     | .rear => [0xFF, 0xFF]) ++
    [Config.freeSectionAirByte s.freeCount]

/-- The input fields of the DOOR record (R89). -/
def State.inputFields (s : State) (i : InputNo) : List Byte :=
  let c := s.cfg.inputs[i]
  let r := s.input i
  wFlag c.enable ++ w8 (if c.activeHigh then 0 else 1) ++ w8 c.width ++ w8 r.raw.code ++
    w8 r.filtered.code ++ s.ageField 1 (some r.stableSince)

/-- DOOR n (R89). The in-use field is 1 for yes and 0 for no. DEDUCED, unsafe: notes/assumptions/27.md,
notes/assumptions/28.md. -/
def State.doorRecord (s : State) (d : DoorNo) : List Byte :=
  let r := s.door d
  w8 r.state.code ++ wFlag r.inUse ++ inUnits 100 (some (s.dwell d)) ++ w8 r.level ++
    w8 s.cfg.bd[d] ++ w8? r.vclose ++ inUnits 100 r.decayTime ++ inUnits 100 r.decayRemaining ++
    s.leftField 100 r.heldTimer ++ s.leftField 100 r.trailingTimer ++ w8 r.ring.length ++
    padded 8 (fun x : Nat => w16 x) (w16 0xFFFF) r.ring ++ w16? r.historyMean ++
    w8 r.curtainHeat ++ w8 r.curtainBlower.code ++ wFlag (s.curtainOff d) ++
    (allZones.flatMap fun z => w8 (s.weight d z)) ++ (r.contribution.toList.flatMap w8) ++
    s.inputFields (drInput d) ++ s.inputFields relInput

/-- SCREEN (R19, R66). The screen-air request is 1 while asserted. DEDUCED, unsafe: notes/assumptions/27.md. -/
def State.screenRecord (s : State) : List Byte :=
  let r := s.sc
  s.tempRecord .glass ++ s.humidityRecord ++ w16 r.tcab ++ w8 r.tcabSource.code ++
    wSigned? r.dew ++ wSigned? r.margin ++ w8 r.state.code ++ w8? (r.acting.map ActingMode.code) ++
    w8 r.flap.code ++ wFlag r.airRequest ++ wFlag r.filmLatch ++ w8 r.filmPosted ++
    w8 r.partPosted ++ s.leftField 100 r.exitHold ++ w8 r.origin.code ++ w16 r.duration ++
    s.leftField 1000 r.defrostTimer ++ s.leftField 100 r.glassHold ++ w8 r.lastEnd.code ++
    w8 r.coldDecision.code

/-- The fields of one class in POWER part 0 (R114). -/
def State.classFields (s : State) (c : HeatClass) : List Byte :=
  let k := s.class c
  w16 k.demand ++ w16 k.held ++ w16 k.reserve ++ w16 k.grant ++ w16 s.cfg.quota[c.index] ++
    wFlag k.short

/-- POWER part 0, the account (R114). -/
def State.powerAccount (s : State) : List Byte :=
  let p := s.pa
  let l := s.input lineInput
  w16 p.envelope ++ w8 p.envState.code ++ s.leftField 1 p.envTimer ++ w8 p.line.code ++
    s.ageField 100 p.gapStart ++ w16 p.preGapDraw ++ w16 s.budget ++ w16 p.ceiling ++
    wFlag p.ceilingActive ++ allClasses.flatMap s.classFields ++
    w8 (if p.surplus.isOpen then 0 else 1) ++ w16 p.surplus.offered ++ w16 p.surplus.accepted ++
    s.leftField 1 p.surplus.endTime ++ p.surplus.absorbed.toList.flatMap w8 ++
    w16 s.accountedDraw ++ w8 l.raw.code ++ w8 l.filtered.code ++
    s.ageField 1 (some l.stableSince)

/-- POWER part 1, the members (R114). -/
def State.powerMembers (s : State) : List Byte :=
  (allZones.flatMap fun z => w16 (s.zoneGrant z)) ++
    (List.finRange 18).flatMap fun m =>
      w8 (s.member m).posted ++ w8 (s.member m).demand ++ w8 (s.member m).held ++
        w8 (s.member m).grant

/-- Place of a slot in the closure queue, from 0 at the head (R134). -/
def State.queuePlace (s : State) (i : SlotNo) : Option Nat :=
  if s.queued i then some (s.es.queue.idxOf i) else none

/-- ELEMENT n (R134). A contactor carries no duty and no granted portion (R116); both bytes are 0. DEDUCED,
unsafe: notes/assumptions/28.md. -/
def State.elementRecord (s : State) (i : SlotNo) : List Byte :=
  let c := s.slot i
  let e := s.elem i
  w8 c.node.code ++ w8 c.output ++ w8 c.owner.code ++ w8 c.kind.code ++ w8 c.rating ++
    w8 c.phase ++ w8 e.state.code ++ w8? (e.lockout.map LockoutReason.code) ++
    w8 e.autoReleases ++ s.leftField 1000 e.lockoutTimer ++ w16 (s.orderedLevel i) ++
    w8? (s.queuePlace i) ++ w8 e.granted ++ w8 e.duty ++ w8 (s.elemDraw i) ++
    w8 (s.absorbed i) ++ w16? e.applied ++ wFlag e.overheat ++ w8 e.mismatch ++
    s.ageField 100 e.closedSince ++ s.ageField 100 e.openedSince

/-! ### Override and group records (R166) -/

/-- The scopes for which entries of a kind resolve (R162). -/
def scopesOf : OverrideKind → List Scope
  | .setpointShift | .zoneOff | .zoneCap => allZones.map Scope.zone
  | .air => [.air .front, .air .rear]
  | .curtainOff => allDoors.map Scope.door
  | .defrost => [.screen]

/-- Whether an entry is the resolved one for at least one target (R166). -/
def State.resolved (s : State) (x : EntryNo × Entry) : Bool :=
  (scopesOf x.2.kind).any fun sc => (s.resolveAt x.2.kind sc).map (·.1) == some x.1

/-- The flags byte of an override entry (R194). -/
def State.entryFlags (s : State) (x : EntryNo × Entry) : Nat :=
  x.2.source.index + 2 * x.2.suspended.toNat + 4 * (s.resolved x).toNat

/-- An override entry (R166, R194). -/
def State.entryRecord (s : State) (x : EntryNo × Entry) : List Byte :=
  w8 x.1.val ++ w8 x.2.kind.code ++ w8 x.2.target.code ++ wSigned? x.2.value ++
    s.leftField 1000 x.2.expiry ++ w16 x.2.seq ++ w8 (s.entryFlags x)

/-- OVERRIDES from a start slot: up to 12 entries (R166). -/
def State.overridesRecord (s : State) (start : Nat) : List Byte :=
  w8 s.entries.length ++ w16 s.ot.running ++
    ((s.entries.filter fun x => decide (start ≤ x.1.val)).take 12).flatMap s.entryRecord

/-- GROUP n (R166). -/
def State.groupRecord (s : State) (g : Fin 8) : List Byte :=
  w8 (s.cfg.groupMask g).toNat ++ wFlag (decide (g.val < 4)) ++ w8 (s.cfg.groupSection g).code ++
    w8 (s.entries.filter fun x => x.2.target == .group g).length

/-! ### Node, counters, configuration, ports -/

/-- The value records of a node, with the absent codes that fill the rear record (R194). -/
def State.nodeValues (s : State) (n : Node) : List Byte :=
  ((nodeZones n).toList.flatMap fun z => s.tempRecord (.air z)) ++ s.tempRecord (.outside n) ++
    match n with
    | .front => s.tempRecord .glass ++ s.humidityRecord
    | .rear => [0x80, 0x00, 0xFF, 0xFF, 0xFF, 0xFF, 0xFF, 0xFF, 0xFF, 0xFF, 0xFF]

/-- NODE n (R19, R150). -/
def State.nodeRecord (s : State) (n : Node) : List Byte :=
  let k := s.link n
  s.nodeValues n ++ w8 k.state.code ++ w8 k.validRun ++ s.ageField 1 k.lastValid ++
    w8 k.window.length ++
    padded 4 (fun e : OrderEntry => w8 e.number.val ++ s.ageField 1 (some e.sentAt))
      [0xFF, 0xFF, 0xFF] k.window ++
    w8 k.nextNumber.val ++ wFlag k.pendingMarker ++ w8 k.echoMiss ++ w16 k.lateEchoes ++
    w16 k.frameErrors ++ w8 k.latch.mask ++ w8 k.restarts ++ s.ageField 100 k.lastRestart ++
    s.ageField 100 k.lostTime ++ w16 k.heldDraw ++ s.leftField 1 k.heldTimer

/-- The setup bytes of a counter, as COUNTER-SETUP codes them (R193). -/
def CounterSetup.bytes (c : CounterSetup) : List Byte :=
  w8 c.event.code ++ [c.mask] ++ w8 c.threshold ++ w8 c.mode.code ++
    w8 (c.freezeOnOverflow.toNat + 2 * c.enable.toNat)

/-- Freeze state and edge memory are coded in the order R180 lists them: FROZEN 0, COUNTED 0. -/
def codeFirst (b : Bool) : List Byte :=
  w8 (if b then 0 else 1)

/-- COUNTERS (R185). -/
def State.countersRecord (s : State) : List Byte :=
  s.ac.toList.flatMap fun k =>
    w32 k.value ++ wFlag k.overflow ++ codeFirst k.frozen ++ codeFirst k.counted ++ k.setup.bytes

/-- CONFIG item 0, the store record (R186). -/
def State.storeRecord (s : State) : List Byte :=
  w8 s.cs.storeState.code ++ w8 s.cs.lastStore.code ++ w8 s.cs.load.code

/-- CONFIG item 1 and above: the non-volatile value is absent when the copy failed its check at the last
reset (R186). -/
def State.itemRecord (s : State) (it : Item) : List Byte :=
  let held := s.cs.load == .loaded
  w32 (s.cfg.get it) ++ wFlag held ++ w32 (if held then s.cs.nonVolatile.get it else 0) ++
    w32 it.range.1 ++ w32 it.range.2 ++ w32 it.default

/-- One port of PORTS; `forming` is 1 on the port whose reply is being formed (R174). The
attention line is 1 while asserted. DEDUCED, unsafe: notes/assumptions/27.md. -/
def State.portRecord (s : State) (p : Port) (forming : Nat) : List Byte :=
  let c := s.port p
  w8 c.link.code ++ s.ageField 1 c.lastGood ++ w16 c.frameErrors ++ w16 c.overruns ++
    w8 (c.replies.length + forming) ++ w24 c.notices.toNat ++ w24 c.mask.toNat ++
    wFlag c.globalEnable ++ wFlag c.attention

/-- PORTS, as read from a port (R174). -/
def State.portsRecord (s : State) (p : Port) : List Byte :=
  s.portRecord .desk (if p = .desk then 1 else 0) ++
    s.portRecord .power (if p = .power then 1 else 0) ++
    s.portRecord .service (if p = .service then 1 else 0)

/-! ### READ-OBJECT (R174, R193) -/

/-- What a readout does besides returning its record: NODE n clears the link-error latch after the
snapshot (R150); SECTION-AIR takes a free value. -/
inductive ReadEffect where
  | none
  | clearLatch (n : Node)
  | tookFree
  deriving DecidableEq, Repr

def State.afterRead (s : State) : ReadEffect → State
  | .none => s
  | .clearLatch n => s.modLink n fun k => { k with latch := LinkErrors.empty }
  | .tookFree => s.tookFree

/-- A record of an indexed object; an index outside the range is REFUSED-MALFORMED. -/
def indexed {α : Type} (i : Option α) (f : α → List Byte) (g : α → ReadEffect) :
    (List Byte × ReadEffect) ⊕ Status :=
  match i with
  | some a => .inl (f a, g a)
  | none => .inr .refusedMalformed

/-- A record without an index. -/
def unindexed (r : List Byte) : (List Byte × ReadEffect) ⊕ Status :=
  .inl (r, .none)

/-- A door from its number 1 to 4. -/
def doorOfNumber? (n : Nat) : Option DoorNo :=
  if h : 1 ≤ n ∧ n ≤ 4 then some ⟨n - 1, by omega⟩ else none

/-- A CONFIG readout: item 0 is the store record (R186). -/
def State.configRecord (s : State) (item idx : Nat) : (List Byte × ReadEffect) ⊕ Status :=
  if item = 0 then unindexed s.storeRecord
  else indexed (Item.ofCodes? item idx) s.itemRecord fun _ => .none

/-- The record that an object code, an index and a part name, or the refusal (R174, R193). -/
def State.recordOf (s : State) (p : Port) (object idx part : Nat) :
    (List Byte × ReadEffect) ⊕ Status :=
  match object with
  | 0 => indexed (index? 6 idx) s.zoneRecord fun _ => .none
  | 1 => indexed (Node.ofCode? idx) s.airRecordBytes fun _ => .tookFree
  | 2 => indexed (doorOfNumber? idx) s.doorRecord fun _ => .none
  | 3 => unindexed s.screenRecord
  | 4 =>
    if part = 0 then unindexed s.powerAccount
    else if part = 1 then unindexed s.powerMembers
    else .inr .refusedMalformed
  | 5 => indexed (index? 24 idx) s.elementRecord fun _ => .none
  | 6 => indexed (index? 16 idx) (fun e : Fin 16 => s.overridesRecord e.val) fun _ => .none
  | 7 => indexed (index? 8 idx) s.groupRecord fun _ => .none
  | 8 => indexed (Node.ofCode? idx) s.nodeRecord .clearLatch
  | 9 => unindexed s.countersRecord
  | 10 => s.configRecord idx part
  | 11 => unindexed (s.portsRecord p)
  | _ => .inr .refusedUnknown

/-- READ-OBJECT (R174). -/
def State.readObject (s : State) (p : Port) (body : List Byte) : Answer :=
  match s.recordOf p (u8 body 0) (u8 body 1) (u8 body 2) with
  | .inr st => s.refuse st
  | .inl x => (s.afterRead x.2).reply .done (body.take 3 ++ x.1)

end Sys2Proof.Machine
end

