-- ==== Sys2Proof/Machine/Counters.lean ====
section
/-! DEFINITION. The requests that the Activity Counters own (chapter 10): COUNTER-SETUP and the five actions
of COUNTER-CONTROL. -/

namespace Sys2Proof.Machine

/-- The setup that a COUNTER-SETUP body carries after its counter number; none where a field is outside its
codes (R180, R193). -/
def setupOf (body : List Byte) : Option CounterSetup :=
  match CountedEvent.ofCode? (u8 body 1), CountMode.ofCode? (u8 body 4) with
  | some ev, some mode =>
    if u8 body 5 < 4 then
      some { event := ev, mask := byteAt body 2, threshold := u8 body 3, mode := mode,
             freezeOnOverflow := (byteAt body 5).getLsbD 0, enable := (byteAt body 5).getLsbD 1 }
    else none
  | _, _ => none

/-- A counter that takes a setup (R180). -/
def CounterRec.takeSetup (x : CounterSetup) (k : CounterRec) : CounterRec :=
  { k with setup := x, counted := false }

/-- COUNTER-SETUP (R180). -/
def State.counterSetup (s : State) (body : List Byte) : Answer :=
  match index? 8 (u8 body 0), setupOf body with
  | some i, some x =>
    State.reply { s with ac := updV s.ac i (CounterRec.takeSetup x) } .done
      (w8 i.val ++ x.bytes)
  | _, _ => s.refuse .refusedMalformed

/-! ### COUNTER-CONTROL (R184) -/

/-- Apply an action to the counters that a mask names. -/
def State.mapCounters (s : State) (mask : Byte) (f : CounterRec → CounterRec) : State :=
  { s with ac := Vector.ofFn fun i : Fin 8 =>
      if mask.getLsbD i.val then f s.ac[i] else s.ac[i] }

def CounterRec.preload (v : Nat) (k : CounterRec) : CounterRec :=
  { k with value := v }

def CounterRec.clear (k : CounterRec) : CounterRec :=
  { k with value := 0, counted := false }

def CounterRec.clearFlag (k : CounterRec) : CounterRec :=
  { k with overflow := false }

def CounterRec.freeze (k : CounterRec) : CounterRec :=
  { k with frozen := true }

def CounterRec.unfreeze (k : CounterRec) : CounterRec :=
  { k with frozen := false }

/-- What COUNTER-CONTROL replies with: value, overflow flag and freeze state of all eight (R184, R193). -/
def State.countersReply (s : State) : List Byte :=
  s.ac.toList.flatMap fun k => w32 k.value ++ wFlag k.overflow ++ codeFirst k.frozen

/-- Whether an overflow bars UNFREEZE (R184). -/
def State.unfreezeBarred (s : State) : Bool :=
  s.ac.toList.any fun k => k.overflow && k.setup.freezeOnOverflow

/-- An action that is not refused, with its reply. -/
def State.counterAction (s : State) (mask : Byte) (f : CounterRec → CounterRec) : Answer :=
  let t := s.mapCounters mask f
  t.reply .done t.countersReply

/-- UNFREEZE: a mask that names no counter changes nothing and is answered DONE (R184). -/
def State.unfreezeCounters (s : State) (mask : Byte) : Answer :=
  if mask ≠ 0 ∧ s.unfreezeBarred then s.refuse .refusedState
  else s.counterAction mask CounterRec.unfreeze

/-- COUNTER-CONTROL: action, counter mask, preload value (R184, R193). -/
def State.counterControl (s : State) (body : List Byte) : Answer :=
  let mask := byteAt body 1
  match u8 body 0 with
  | 0 => s.counterAction mask (CounterRec.preload (u32 body 2))
  | 1 => s.counterAction mask CounterRec.clear
  | 2 => s.counterAction mask CounterRec.clearFlag
  | 3 => s.counterAction mask CounterRec.freeze
  | 4 => s.unfreezeCounters mask
  | _ => s.refuse .refusedMalformed

end Sys2Proof.Machine
end

