-- ==== Sys2Proof/Machine/Ports.lean ====
section
/-! DEFINITION. The Master Port Unit (chapter 9): reception of characters, the handling of a good frame, the
requests that it owns or hands to the Power Allocator, replies, and the port timers. -/

namespace Sys2Proof.Machine

/-! ### Requests handled here (R94, R109, R110, R177, R178) -/

/-- READ-NOTICES: the snapshot is returned and its flags are cleared (R177). -/
def State.readNotices (s : State) (p : Port) : Answer :=
  (s.modPort p fun c => PortCtx.attend { c with notices := 0 }).reply .done
    (w24 (s.port p).notices.toNat)

/-- SET-NOTICE-MASK (R178). The attention line replied is 1 while asserted. DEDUCED, unsafe:
notes/assumptions/27.md. -/
def State.setNoticeMask (s : State) (p : Port) (body : List Byte) : Answer :=
  if 0x100000 ≤ u24 body 0 ∨ 1 < u8 body 3 then s.refuse .refusedMalformed
  else
    let t := s.modPort p fun c =>
      PortCtx.attend { c with mask := BitVec.ofNat 20 (u24 body 0), globalEnable := u8 body 3 == 1 }
    t.reply .done (w24 (t.port p).mask.toNat ++ wFlag (t.port p).globalEnable ++
      wFlag (t.port p).attention)

/-- SET-ENVELOPE (R94). -/
def State.envelopeRequest (s : State) (body : List Byte) : Answer :=
  let v := min 1000 (u16 body 0)
  let t := (s.setEnvelope v .live (s.after Config.envelopeHold)).allocationPass
  t.reply (doneStatus (v != u16 body 0)) (w16 t.budget ++ w16 t.accountedDraw)

/-- OFFER-SURPLUS (R108, R109). -/
def State.offerRequest (s : State) (body : List Byte) : Answer :=
  let amount := clampNat 1 400 (u16 body 0)
  let window := clampNat 50 2000 (u16 body 2)
  let clamped := amount != u16 body 0 || window != u16 body 2
  (s.offer amount window).reply (doneStatus clamped) (w16 (s.acceptance amount))

/-- END-SURPLUS (R110). -/
def State.endRequest (s : State) : Answer :=
  (if s.pa.surplus.isOpen then s.endWindow else s).reply .done []

/-! ### The checks of a request (R171, R172) -/

/-- The ports on which a request kind is allowed (R172). -/
def roleAllows (kind : Nat) (p : Port) : Bool :=
  match kind, p with
  | 1, _ => true
  | 2, _ => true
  | 3, _ => true
  | 4, .power => false
  | 4, _ => true
  | 5, .power => false
  | 5, _ => true
  | 6, .desk => true
  | 7, .power => true
  | 8, .power => true
  | 9, .power => true
  | 10, .service => true
  | 11, .service => true
  | 12, .service => true
  | 13, .service => true
  | 14, .service => true
  | 15, .service => true
  | _, _ => false

/-- The body length of a request kind (R193). -/
def bodyLength (kind : Nat) : Nat :=
  match kind with
  | 1 => 3
  | 3 => 4
  | 4 => 7
  | 5 => 1
  | 7 => 2
  | 8 => 4
  | 10 => 6
  | 13 => 6
  | 14 => 6
  | 15 => 1
  | _ => 0

/-- The owner's handling of a request that has passed the checks (R171, step 5). -/
def State.ownerHandles (s : State) (p : Port) (kind : Nat) (body : List Byte) : Answer :=
  match kind with
  | 1 => s.readObject p body
  | 2 => s.readNotices p
  | 3 => s.setNoticeMask p body
  | 4 => s.placeOverride p body
  | 5 => s.cancelOverride p body
  | 6 => s.shiftChange
  | 7 => s.envelopeRequest body
  | 8 => s.offerRequest body
  | 9 => s.endRequest
  | 10 => s.setConfig body
  | 11 => s.storeConfig
  | 12 => s.restoreDefaults.reply .done []
  | 13 => s.counterSetup body
  | 14 => s.counterControl body
  | 15 => s.elementRelease body
  | _ => s.refuse .refusedUnknown

/-- Steps 2 to 5 of R171. -/
def State.answerRequest (s : State) (p : Port) (kind : Byte) (body : List Byte) : Answer :=
  if !namesRequest kind then s.refuse .refusedUnknown
  else if !roleAllows kind.toNat p then s.refuse .refusedRole
  else if body.length ≠ bodyLength kind.toNat then s.refuse .refusedMalformed
  else s.ownerHandles p kind.toNat body

/-! ### Good frames (R169 to R171) -/

/-- A good frame's effect on the port: the receiver is in HUNT, the link is LINKED and its timer restarts
(R169, R170). -/
def PortCtx.goodFrame (now : Nat) (c : PortCtx) : PortCtx :=
  { c with receiver := .hunt, frame := [], link := .linked, lastGood := some now,
           linkTimer := some (now + Config.portLinkTime) }

/-- Place a reply at the newest end of the queue; its kind is the request's plus 80h (R171, R192), modulo
256. DESIGN CHOICE, unsafe: notes/assumptions/46.md. -/
def PortCtx.pushReply (kind tag : Byte) (body : List Byte) (c : PortCtx) : PortCtx :=
  { c with replies := c.replies ++ [{ kind := kind + 0x80#8, tag := tag, body := body }] }

/-- A request whose reply finds the queue full is discarded (R171, step 1). -/
def PortCtx.overrun (c : PortCtx) : PortCtx :=
  { c with overruns := capped 65535 (c.overruns + 1) }

/-- A good frame on a port (R170, R171). DESIGN CHOICE, unsafe: notes/assumptions/10.md. -/
def State.goodFrame (s : State) (p : Port) (kind tag : Byte) (body : List Byte) : State :=
  let t := s.modPort p (PortCtx.goodFrame s.now)
  if Config.replyCapacity ≤ (t.port p).replies.length then t.modPort p PortCtx.overrun
  else
    let r := t.answerRequest p kind body
    r.1.modPort p (PortCtx.pushReply kind tag r.2)

/-! ### Reception of characters (R169) -/

/-- A frame is discarded and counted, and the receiver hunts again (R169). -/
def PortCtx.discard (c : PortCtx) : PortCtx :=
  { c with receiver := .hunt, frame := [], frameErrors := capped 65535 (c.frameErrors + 1) }

/-- A frame error on a port. DESIGN CHOICE, unsafe: notes/assumptions/11.md. -/
def State.discardFrame (s : State) (p : Port) : State :=
  s.modPort p PortCtx.discard

/-- A complete frame: good, or discarded for its check (R169). -/
def State.frameComplete (s : State) (p : Port) (frame : List Byte) : State :=
  if checkGood frame then
    s.goodFrame p (byteAt frame 2) (byteAt frame 3) ((frame.drop 4).take (u8 frame 1))
  else s.discardFrame p

/-- A character appended to the frame in assembly (R169). -/
def State.appendChar (s : State) (p : Port) (char : Byte) : State :=
  let frame := (s.port p).frame ++ [char]
  if frame.length = 2 ∧ 128 < char.toNat then s.discardFrame p
  else if 2 < frame.length ∧ frame.length = u8 frame 1 + 6 then s.frameComplete p frame
  else s.modPort p fun c => { c with frame := frame, lastChar := s.now }

/-- A character in HUNT: a sync character starts a frame, any other is dropped (R169).
DESIGN CHOICE, unsafe: notes/assumptions/11.md. -/
def State.huntChar (s : State) (p : Port) (char : Byte) (stopBit : Bool) : State :=
  if stopBit && char == syncChar then
    s.modPort p fun c => { c with receiver := .receiving, frame := [char], lastChar := s.now }
  else s

/-- A character arrives on a port (R169). -/
def State.charReceived (s : State) (p : Port) (char : Byte) (stopBit : Bool) : State :=
  match (s.port p).receiver with
  | .hunt => s.huntChar p char stopBit
  | .receiving => if stopBit then s.appendChar p char else s.discardFrame p

/-- 5 ms have passed since the last character of a frame in assembly (R169). -/
def State.intercharTimeout (s : State) (p : Port) : State :=
  if (s.port p).receiver = .receiving ∧ (s.port p).lastChar + Config.interCharLimit ≤ s.now then
    s.discardFrame p
  else s

/-! ### Replies and the port timer -/

/-- The oldest reply has been transmitted whole (R171). -/
def State.replySent (s : State) (p : Port) : State :=
  s.modPort p fun c => { c with replies := c.replies.drop 1 }

/-- The link timer expires (R170). -/
def State.portLinkExpiry (s : State) (p : Port) : State :=
  if due (s.port p).linkTimer s.now then
    (s.modPort p fun c => { c with link := .unlinked, linkTimer := none }).raisePortLost p
  else s

end Sys2Proof.Machine
end

