-- ==== Sys2Proof/Machine/Clock.lean ====
section
/-! DEFINITION. The 1 ms time base: the expiries that are due at a moment, the order in which those that
fall together are taken (a free value), and the tick that brings them into the queue. -/

namespace Sys2Proof.Machine

/-- A command when its timer is due. -/
def whenDue (b : Bool) (c : Instr) : List Instr :=
  if b then [c] else []

def bothNodes : List Node :=
  [.front, .rear]

def allPorts : List Port :=
  [.desk, .power, .service]

/-- Expiries of the inputs and ports that are due. -/
def State.dueAtPins (s : State) : List Instr :=
  ((List.finRange 5).flatMap fun i =>
    whenDue (s.filterDue (doorInputNo i)) (.doorInputFilterExpiry i)) ++
  whenDue (s.filterDue lineInput) .lineFilterExpiry ++
  (allPorts.flatMap fun p =>
    whenDue ((s.port p).receiver == .receiving &&
      decide ((s.port p).lastChar + Config.interCharLimit ≤ s.now)) (.masterIntercharTimeout p) ++
    whenDue (due (s.port p).linkTimer s.now) (.portLinkTimerExpiry p))

/-- Expiries of one node link that are due. -/
def State.dueOnLink (s : State) (n : Node) : List Instr :=
  let k := s.link n
  whenDue (due k.orderTimer s.now) (.orderIntervalExpiry n) ++
  whenDue (due k.spacingTimer s.now) (.spacingTimerExpiry n) ++
  (k.window.flatMap fun e => whenDue (decide (e.timeout ≤ s.now)) (.echoTimeout n e.number)) ++
  whenDue (due k.silenceTimer s.now) (.silenceTimerExpiry n) ++
  whenDue (due k.heldTimer s.now) (.heldDrawTimerExpiry n)

/-- Expiries of the Sample Table, the Zone Regulator and the Screen Controller that are due. -/
def State.dueInCabin (s : State) : List Instr :=
  (allValues.flatMap fun v =>
    whenDue (s.holdDue v) (.holdTimerExpiry v) ++
    whenDue (s.degradeDue v) (.degradeTimerExpiry v)) ++
  whenDue (due s.zr.passTimer s.now) .regulationPass ++
  whenDue (due s.sc.exitHold s.now) .demistExitHoldExpiry ++
  whenDue (due s.sc.defrostTimer s.now) .defrostTimerExpiry ++
  whenDue (due s.sc.glassHold s.now) .glassTargetHoldExpiry

/-- Expiries of the doors that are due. -/
def State.dueAtDoors (s : State) : List Instr :=
  (allDoors.flatMap fun d =>
    whenDue (due (s.door d).heldTimer s.now) (.heldTimerExpiry d) ++
    whenDue (due (s.door d).trailingTimer s.now) (.trailingTimerExpiry d) ++
    whenDue (due (s.door d).decayTimer s.now) (.decayEnd d) ++
    whenDue (s.secondDue d) (.doorOpenSecond d)) ++
  whenDue (due s.ddc.tick s.now) .doorTick

/-- Expiries of the Power Allocator that are due. -/
def State.dueInPower (s : State) : List Instr :=
  whenDue (due s.pa.dewireTimer s.now) .dewireTimerExpiry ++
  whenDue (due s.pa.envTimer s.now) .envelopeHoldExpiry ++
  whenDue (due s.pa.stepTimer s.now) .restoreStep ++
  whenDue (due s.pa.allocTimer s.now) .allocationTimerExpiry ++
  (allClasses.flatMap fun c => whenDue (due (s.class c).timer s.now) (.shortfallTimerExpiry c)) ++
  whenDue (due s.pa.surplus.endTime s.now) .surplusWindowEndTime ++
  whenDue (due s.pa.drawTimer s.now) .energy

/-- When the store in progress ends: after its acceptance and no later than 400 ms after it (R189). -/
def State.storeEnd (s : State) : Nat :=
  s.cs.storeStart + clampNat 1 Config.storeLimit (Config.freeStoreTime s.cs.storeStart)

/-- Expiries of the elements, the overrides and the store that are due. -/
def State.dueElsewhere (s : State) : List Instr :=
  (allSlots.flatMap fun i =>
    whenDue (due (s.elem i).lockoutTimer s.now) (.lockoutTimerExpiry i)) ++
  whenDue (due s.es.slotTimer s.now) .beatSlotBoundary ++
  (s.entries.flatMap fun x => whenDue (due x.2.expiry s.now) (.overrideExpiry x.1)) ++
  whenDue (s.cs.storeState == .storing && decide (s.storeEnd ≤ s.now))
    (.storeCompletion (Config.freeReadBack s.cs.storeStart))

/-- Every expiry that is due. -/
def State.dueCommands (s : State) : List Instr :=
  s.dueAtPins ++ bothNodes.flatMap s.dueOnLink ++ s.dueInCabin ++ s.dueAtDoors ++ s.dueInPower ++
    s.dueElsewhere

/-- A list in the order that a choice function picks: at each place, the choice numbers one of those still
waiting. -/
def arrange (choice : Nat → Nat) : Nat → List Instr → List Instr
  | 0, l => l
  | fuel + 1, l =>
    match l with
    | [] => []
    | [c] => [c]
    | c :: d :: rest =>
      let k := choice fuel % (c :: d :: rest).length
      (c :: d :: rest).getD k c :: arrange choice fuel ((c :: d :: rest).eraseIdx k)

/-- The due expiries in the order in which they are taken (R28, R80, R165 leave it open). -/
def State.arrivals (s : State) : List Instr :=
  arrange (Config.freeOrder s.freeCount) s.dueCommands.length s.dueCommands

/-- One millisecond passes with nothing waiting: the expiries that are then due wait in the queue.
DESIGN CHOICE, unsafe: notes/assumptions/6.md. -/
def State.tick (s : State) : State :=
  let t := { s with now := s.now + 1 }
  { t with pending := t.arrivals, freeCount := t.freeCount + 1 }

end Sys2Proof.Machine
end

