-- ==== Sys2Proof/Machine/PortCommands.lean ====
section
/-! DEFINITION. The meanings of the commands at the master ports: the requests as good frames, characters, frame
errors, replies and port timers. -/

namespace Sys2Proof.Machine

/-- What a command of the block answers. -/
abbrev Result := Host.Outcome State Fault Refusal

/-- The end of every command: the orders that its changes of ordered state make due are sent or kept
pending (R138, R139). -/
def finish (before after : State) : Result :=
  .next (after.settle before)

/-- READ-OBJECT (R174). -/
def execReadObject (p : Port) (tag : Byte) (body : List Byte) (s : State) : Result :=
  finish s (s.goodFrame p 0x01#8 tag body)

/-- READ-NOTICES (R177). -/
def execReadNotices (p : Port) (tag : Byte) (body : List Byte) (s : State) : Result :=
  finish s (s.goodFrame p 0x02#8 tag body)

/-- SET-NOTICE-MASK (R178). -/
def execSetNoticeMask (p : Port) (tag : Byte) (body : List Byte) (s : State) : Result :=
  finish s (s.goodFrame p 0x03#8 tag body)

/-- PLACE-OVERRIDE (R153 to R158). -/
def execPlaceOverride (p : Port) (tag : Byte) (body : List Byte) (s : State) : Result :=
  finish s (s.goodFrame p 0x04#8 tag body)

/-- CANCEL-OVERRIDE (R160). -/
def execCancelOverride (p : Port) (tag : Byte) (body : List Byte) (s : State) : Result :=
  finish s (s.goodFrame p 0x05#8 tag body)

/-- SHIFT-CHANGE (R161). -/
def execShiftChange (p : Port) (tag : Byte) (body : List Byte) (s : State) : Result :=
  finish s (s.goodFrame p 0x06#8 tag body)

/-- SET-ENVELOPE (R94). -/
def execSetEnvelope (p : Port) (tag : Byte) (body : List Byte) (s : State) : Result :=
  finish s (s.goodFrame p 0x07#8 tag body)

/-- OFFER-SURPLUS (R108, R109). -/
def execOfferSurplus (p : Port) (tag : Byte) (body : List Byte) (s : State) : Result :=
  finish s (s.goodFrame p 0x08#8 tag body)

/-- END-SURPLUS (R110). -/
def execEndSurplus (p : Port) (tag : Byte) (body : List Byte) (s : State) : Result :=
  finish s (s.goodFrame p 0x09#8 tag body)

/-- SET-CONFIG (R187). -/
def execSetConfig (p : Port) (tag : Byte) (body : List Byte) (s : State) : Result :=
  finish s (s.goodFrame p 0x0A#8 tag body)

/-- STORE-CONFIG (R189). -/
def execStoreConfig (p : Port) (tag : Byte) (body : List Byte) (s : State) : Result :=
  finish s (s.goodFrame p 0x0B#8 tag body)

/-- RESTORE-DEFAULTS (R189). -/
def execRestoreDefaults (p : Port) (tag : Byte) (body : List Byte) (s : State) : Result :=
  finish s (s.goodFrame p 0x0C#8 tag body)

/-- COUNTER-SETUP (R180). -/
def execCounterSetup (p : Port) (tag : Byte) (body : List Byte) (s : State) : Result :=
  finish s (s.goodFrame p 0x0D#8 tag body)

/-- COUNTER-CONTROL with action PRELOAD, its code 0 in front of `rest` (R184). -/
def execPreload (p : Port) (tag : Byte) (rest : List Byte) (s : State) : Result :=
  finish s (s.goodFrame p 0x0E#8 tag (0x00#8 :: rest))

/-- COUNTER-CONTROL with action CLEAR, its code 1 in front of `rest` (R184). -/
def execClear (p : Port) (tag : Byte) (rest : List Byte) (s : State) : Result :=
  finish s (s.goodFrame p 0x0E#8 tag (0x01#8 :: rest))

/-- COUNTER-CONTROL with action CLEAR-FLAGS, its code 2 in front of `rest` (R184). -/
def execClearFlags (p : Port) (tag : Byte) (rest : List Byte) (s : State) : Result :=
  finish s (s.goodFrame p 0x0E#8 tag (0x02#8 :: rest))

/-- COUNTER-CONTROL with action FREEZE, its code 3 in front of `rest` (R184). -/
def execFreeze (p : Port) (tag : Byte) (rest : List Byte) (s : State) : Result :=
  finish s (s.goodFrame p 0x0E#8 tag (0x03#8 :: rest))

/-- COUNTER-CONTROL with action UNFREEZE, its code 4 in front of `rest` (R184). -/
def execUnfreeze (p : Port) (tag : Byte) (rest : List Byte) (s : State) : Result :=
  finish s (s.goodFrame p 0x0E#8 tag (0x04#8 :: rest))

/-- ELEMENT-RELEASE (R132). -/
def execElementRelease (p : Port) (tag : Byte) (body : List Byte) (s : State) : Result :=
  finish s (s.goodFrame p 0x0F#8 tag body)

/-- A good frame of a kind that names no request (R171). DESIGN CHOICE, safe: notes/assumptions/12.md. -/
def execUnknownRequest (p : Port) (kind tag : Byte) (body : List Byte) (s : State) : Result :=
  finish s (s.goodFrame p kind tag body)

/-- The oldest reply has been transmitted whole (R171). -/
def execReplyTransmitted (p : Port) (s : State) : Result :=
  finish s (s.replySent p)

/-- The link timer of a port expires (R170). -/
def execPortLinkTimerExpiry (p : Port) (s : State) : Result :=
  finish s (s.portLinkExpiry p)

/-- 5 ms have passed since the last character of a frame in assembly (R169). -/
def execMasterIntercharTimeout (p : Port) (s : State) : Result :=
  finish s (s.intercharTimeout p)

/-- A frame with a bad length, stop bit or check is discarded and counted (R169). -/
def execMasterFrameError (p : Port) (s : State) : Result :=
  finish s (s.discardFrame p)

/-- A character arrives on a port (R169). -/
def execMasterCharacterReceived (p : Port) (char : Byte) (stopBit : Bool) (s : State) : Result :=
  finish s (s.charReceived p char stopBit)

end Sys2Proof.Machine
end

