-- ==== Sys2Proof/Machine/NodeCommands.lean ====
section
/-! DEFINITION. The meanings of the commands of the node links and of the Sample Table. -/

namespace Sys2Proof.Machine

/-- An ECHO frame, valid where its body has the length of its kind (R137, R141, R143). -/
def execEcho (n : Node) (tag : Byte) (body : List Byte) (s : State) : Result :=
  finish s (s.nodeArrival n (judgeBody echoKind tag body))

/-- A SAMPLE frame, valid where its body has the length of its kind (R8, R137). -/
def execSampleFrame (n : Node) (body : List Byte) (s : State) : Result :=
  finish s (s.nodeArrival n (judgeBody sampleKind 0 body))

/-- A frame from a node as its characters: a frame error of the class it is judged to have, or the valid frame
that it turns out to be (R137, R148). -/
def execNodeFrameError (n : Node) (frame : LinkFrame) (s : State) : Result :=
  finish s (s.nodeArrival n (judgeFrame frame))

/-- The order interval timer expires (R139). -/
def execOrderIntervalExpiry (n : Node) (s : State) : Result :=
  finish s (s.intervalExpiry n)

/-- The spacing timer expires (R139). -/
def execSpacingTimerExpiry (n : Node) (s : State) : Result :=
  finish s (s.spacingExpiry n)

/-- The echo timeout of an outstanding order expires (R140). -/
def execEchoTimeout (n : Node) (order : OrderNo) (s : State) : Result :=
  finish s (s.echoTimeout n order)

/-- The silence timer of a link expires (R144). -/
def execSilenceTimerExpiry (n : Node) (s : State) : Result :=
  finish s (s.silenceExpiry n)

/-- The held-draw timer of a LOST link expires (R146). -/
def execHeldDrawTimerExpiry (n : Node) (s : State) : Result :=
  finish s (s.heldDrawExpiry n)

/-- The hold timer of a value record expires (R11). -/
def execHoldTimerExpiry (v : ValueId) (s : State) : Result :=
  finish s (s.holdExpiry v)

/-- The degrade timer of a value record expires (R11, R13). -/
def execDegradeTimerExpiry (v : ValueId) (s : State) : Result :=
  finish s (s.degradeExpiry v)

end Sys2Proof.Machine
end

