-- ==== Sys2Proof/Machine/CabinCommands.lean ====
section
/-! DEFINITION. The meanings of the commands of the inputs, the Zone Regulator, the Screen Controller and the doors. -/

namespace Sys2Proof.Machine

/-- The raw level at a pin changes (R69). -/
def execInputRawChange (i : InputNo) (level : PinLevel) (s : State) : Result :=
  finish s (s.rawChange i level)

/-- The raw sense of DR1 to DR4 or REL has been stable for the filter width (R69). -/
def execDoorInputFilterExpiry (i : Fin 5) (s : State) : Result :=
  finish s (s.settleInput (doorInputNo i))

/-- The raw sense of LINE has been stable for its drop or restore filter (R91). -/
def execLineFilterExpiry (s : State) : Result :=
  finish s (s.settleInput lineInput)

/-- The regulation timer expires: a regulation pass (R27). -/
def execRegulationPass (s : State) : Result :=
  finish s (if due s.zr.passTimer s.now then s.regulate else s)

/-- The demist exit hold timer expires (R54). -/
def execDemistExitHoldExpiry (s : State) : Result :=
  finish s s.exitHoldExpiry

/-- The defrost timer expires (R61). -/
def execDefrostTimerExpiry (s : State) : Result :=
  finish s s.defrostExpiry

/-- The glass-target hold timer expires (R61). -/
def execGlassTargetHoldExpiry (s : State) : Result :=
  finish s s.glassHoldExpiry

/-- The held timer of a door expires (R76). -/
def execHeldTimerExpiry (d : DoorNo) (s : State) : Result :=
  finish s (s.heldExpiry d)

/-- The trailing timer of a door expires (R78). -/
def execTrailingTimerExpiry (d : DoorNo) (s : State) : Result :=
  finish s (s.trailingExpiry d)

/-- The decay of a TRAILING door ends (R78). -/
def execDecayEnd (d : DoorNo) (s : State) : Result :=
  finish s (s.decayExpiry d)

/-- The door tick (R85). -/
def execDoorTick (s : State) : Result :=
  finish s (if due s.ddc.tick s.now then s.doorTick else s)

/-- The dwell of a door reaches a whole second (R86). -/
def execDoorOpenSecond (d : DoorNo) (s : State) : Result :=
  finish s (s.doorSecond d)

end Sys2Proof.Machine
end

