-- ==== Sys2Proof/Machine/PowerCommands.lean ====
section
/-! DEFINITION. The meanings of the commands of the Power Allocator, the Element Stager, the Override Table and the
Configuration Store, and device reset. -/

namespace Sys2Proof.Machine

/-- Power-on or RESET (R190). -/
def execDeviceReset (s : State) : Result :=
  finish s s.deviceReset

/-- The write of a store ends (R189). -/
def execStoreCompletion (readBackMatches : Bool) (s : State) : Result :=
  finish s (s.storeEnds readBackMatches)

/-- The dewire timer expires (R93). -/
def execDewireTimerExpiry (s : State) : Result :=
  finish s s.dewireExpiry

/-- The envelope hold timer expires (R95). -/
def execEnvelopeHoldExpiry (s : State) : Result :=
  finish s s.envelopeExpiry

/-- The restore step timer expires (R96). -/
def execRestoreStep (s : State) : Result :=
  finish s s.restoreStep

/-- The allocation timer expires (R102). -/
def execAllocationTimerExpiry (s : State) : Result :=
  finish s s.allocationExpiry

/-- The shortfall timer of a class expires (R107). -/
def execShortfallTimerExpiry (c : HeatClass) (s : State) : Result :=
  finish s (s.shortfallExpiry c)

/-- An open surplus window reaches its end time (R110). -/
def execSurplusWindowEndTime (s : State) : Result :=
  finish s s.windowEnd

/-- The 1 s draw timer expires (R112). -/
def execEnergy (s : State) : Result :=
  finish s s.energyReading

/-- The lockout timer of an element expires (R130). -/
def execLockoutTimerExpiry (i : SlotNo) (s : State) : Result :=
  finish s (s.lockoutExpiry i)

/-- The slot timer of the stage beat expires (R125 to R127). -/
def execBeatSlotBoundary (s : State) : Result :=
  finish s s.beat

/-- An override entry reaches its expiry time (R159). -/
def execOverrideExpiry (e : EntryNo) (s : State) : Result :=
  finish s (s.entryExpiry e)

end Sys2Proof.Machine
end

