-- ==== Sys2Proof/Machine/Dispatch.lean ====
section
/-! DEFINITION. The dispatch: one arm per command, each one call of its meaning. -/

namespace Sys2Proof.Machine

/-- The effect of a command on everything but the queue of waiting commands. -/
def exec (i : Instr) (s : State) : Host.Outcome State Fault Refusal :=
  match i with
  | .deviceReset => Sys2Proof.Machine.execDeviceReset s
  | .inputRawChange input level => Sys2Proof.Machine.execInputRawChange input level s
  | .doorInputFilterExpiry input => Sys2Proof.Machine.execDoorInputFilterExpiry input s
  | .lineFilterExpiry => Sys2Proof.Machine.execLineFilterExpiry s
  | .masterIntercharTimeout p => Sys2Proof.Machine.execMasterIntercharTimeout p s
  | .masterFrameError p => Sys2Proof.Machine.execMasterFrameError p s
  | .unknownRequest p kind tag body => Sys2Proof.Machine.execUnknownRequest p kind tag body s
  | .readObject p tag body => Sys2Proof.Machine.execReadObject p tag body s
  | .readNotices p tag body => Sys2Proof.Machine.execReadNotices p tag body s
  | .setNoticeMask p tag body => Sys2Proof.Machine.execSetNoticeMask p tag body s
  | .placeOverride p tag body => Sys2Proof.Machine.execPlaceOverride p tag body s
  | .cancelOverride p tag body => Sys2Proof.Machine.execCancelOverride p tag body s
  | .shiftChange p tag body => Sys2Proof.Machine.execShiftChange p tag body s
  | .setEnvelope p tag body => Sys2Proof.Machine.execSetEnvelope p tag body s
  | .offerSurplus p tag body => Sys2Proof.Machine.execOfferSurplus p tag body s
  | .endSurplus p tag body => Sys2Proof.Machine.execEndSurplus p tag body s
  | .setConfig p tag body => Sys2Proof.Machine.execSetConfig p tag body s
  | .storeConfig p tag body => Sys2Proof.Machine.execStoreConfig p tag body s
  | .storeCompletion readBackMatches => Sys2Proof.Machine.execStoreCompletion readBackMatches s
  | .restoreDefaults p tag body => Sys2Proof.Machine.execRestoreDefaults p tag body s
  | .counterSetup p tag body => Sys2Proof.Machine.execCounterSetup p tag body s
  | .preload p tag rest => Sys2Proof.Machine.execPreload p tag rest s
  | .clear p tag rest => Sys2Proof.Machine.execClear p tag rest s
  | .clearFlags p tag rest => Sys2Proof.Machine.execClearFlags p tag rest s
  | .freeze p tag rest => Sys2Proof.Machine.execFreeze p tag rest s
  | .unfreeze p tag rest => Sys2Proof.Machine.execUnfreeze p tag rest s
  | .elementRelease p tag body => Sys2Proof.Machine.execElementRelease p tag body s
  | .replyTransmitted p => Sys2Proof.Machine.execReplyTransmitted p s
  | .portLinkTimerExpiry p => Sys2Proof.Machine.execPortLinkTimerExpiry p s
  | .echo n tag body => Sys2Proof.Machine.execEcho n tag body s
  | .sampleFrame n body => Sys2Proof.Machine.execSampleFrame n body s
  | .nodeFrameError n frame => Sys2Proof.Machine.execNodeFrameError n frame s
  | .orderIntervalExpiry n => Sys2Proof.Machine.execOrderIntervalExpiry n s
  | .spacingTimerExpiry n => Sys2Proof.Machine.execSpacingTimerExpiry n s
  | .echoTimeout n order => Sys2Proof.Machine.execEchoTimeout n order s
  | .silenceTimerExpiry n => Sys2Proof.Machine.execSilenceTimerExpiry n s
  | .heldDrawTimerExpiry n => Sys2Proof.Machine.execHeldDrawTimerExpiry n s
  | .holdTimerExpiry v => Sys2Proof.Machine.execHoldTimerExpiry v s
  | .degradeTimerExpiry v => Sys2Proof.Machine.execDegradeTimerExpiry v s
  | .regulationPass => Sys2Proof.Machine.execRegulationPass s
  | .demistExitHoldExpiry => Sys2Proof.Machine.execDemistExitHoldExpiry s
  | .defrostTimerExpiry => Sys2Proof.Machine.execDefrostTimerExpiry s
  | .glassTargetHoldExpiry => Sys2Proof.Machine.execGlassTargetHoldExpiry s
  | .heldTimerExpiry d => Sys2Proof.Machine.execHeldTimerExpiry d s
  | .trailingTimerExpiry d => Sys2Proof.Machine.execTrailingTimerExpiry d s
  | .decayEnd d => Sys2Proof.Machine.execDecayEnd d s
  | .doorTick => Sys2Proof.Machine.execDoorTick s
  | .doorOpenSecond d => Sys2Proof.Machine.execDoorOpenSecond d s
  | .dewireTimerExpiry => Sys2Proof.Machine.execDewireTimerExpiry s
  | .envelopeHoldExpiry => Sys2Proof.Machine.execEnvelopeHoldExpiry s
  | .restoreStep => Sys2Proof.Machine.execRestoreStep s
  | .allocationTimerExpiry => Sys2Proof.Machine.execAllocationTimerExpiry s
  | .shortfallTimerExpiry c => Sys2Proof.Machine.execShortfallTimerExpiry c s
  | .surplusWindowEndTime => Sys2Proof.Machine.execSurplusWindowEndTime s
  | .energy => Sys2Proof.Machine.execEnergy s
  | .lockoutTimerExpiry slot => Sys2Proof.Machine.execLockoutTimerExpiry slot s
  | .beatSlotBoundary => Sys2Proof.Machine.execBeatSlotBoundary s
  | .overrideExpiry e => Sys2Proof.Machine.execOverrideExpiry e s
  | .masterCharacterReceived p char stopBit => Sys2Proof.Machine.execMasterCharacterReceived p char stopBit s

end Sys2Proof.Machine
end

