-- ==== Sys2Proof/Safety.lean ====
section
/-! DEFINITION. What the claims speak of: the parts of State, what it means that an event leaves a part as
it was, the manual's tables and checks as the claims state them, and the invariants of the block. -/

namespace Sys2Proof.Machine

/-! ### Parts of the state -/

/-- The parts of State: one per block, the ports' notices apart from the rest of the ports. -/
inductive Part where
  | time | samples | zones | screen | inputs | doors | overrides | power | elements | links
  | counters | store | notices | ports | free | queue
  deriving DecidableEq, Repr

/-- A port without its notice status set and attention line. -/
def PortCtx.quiet (p : PortCtx) : PortCtx :=
  { p with notices := 0, attention := false }

/-- What a part of a state holds. -/
inductive PartValue where
  | time (x : Nat)
  | samples (x : SampleTable)
  | zones (x : ZoneRegulator)
  | screen (x : ScreenRec)
  | inputs (x : Vector InputRec 6)
  | doors (x : DoorController)
  | overrides (x : OverrideTable)
  | power (x : PowerAllocator)
  | elements (x : ElementStager)
  | links (x : LinkController)
  | counters (x : Vector CounterRec 8)
  | store (x : ConfigStore)
  | notices (desk power service : BitVec 20 × Bool)
  | ports (desk power service : PortCtx)
  | free (x : Nat)
  | queue (x : List Instr)
  deriving DecidableEq, Repr

/-- The value of a part of a state. -/
def State.part (s : State) : Part → PartValue
  | .time => .time s.now
  | .samples => .samples s.st
  | .zones => .zones s.zr
  | .screen => .screen s.sc
  | .inputs => .inputs s.ic
  | .doors => .doors s.ddc
  | .overrides => .overrides s.ot
  | .power => .power s.pa
  | .elements => .elements s.es
  | .links => .links s.nlc
  | .counters => .counters s.ac
  | .store => .store s.cs
  | .notices =>
    .notices (s.mpu.desk.notices, s.mpu.desk.attention)
      (s.mpu.power.notices, s.mpu.power.attention)
      (s.mpu.service.notices, s.mpu.service.attention)
  | .ports => .ports s.mpu.desk.quiet s.mpu.power.quiet s.mpu.service.quiet
  | .free => .free s.freeCount
  | .queue => .queue s.pending

/-- The frame of an event: every part but those named is as it was. -/
def Keeps (touched : List Part) (s t : State) : Prop :=
  ∀ p, p ∉ touched → t.part p = s.part p

/-! ### What a request is and how it is answered -/

/-- A request command as the frame that it stands for: port, kind, tag and body. The kind codes are those
of R192, the action bytes of COUNTER-CONTROL those of R184 and R193. -/
def requestOf : Instr → Option (Port × Byte × Byte × List Byte)
  | .readObject p tag body => some (p, 0x01, tag, body)
  | .readNotices p tag body => some (p, 0x02, tag, body)
  | .setNoticeMask p tag body => some (p, 0x03, tag, body)
  | .placeOverride p tag body => some (p, 0x04, tag, body)
  | .cancelOverride p tag body => some (p, 0x05, tag, body)
  | .shiftChange p tag body => some (p, 0x06, tag, body)
  | .setEnvelope p tag body => some (p, 0x07, tag, body)
  | .offerSurplus p tag body => some (p, 0x08, tag, body)
  | .endSurplus p tag body => some (p, 0x09, tag, body)
  | .setConfig p tag body => some (p, 0x0A, tag, body)
  | .storeConfig p tag body => some (p, 0x0B, tag, body)
  | .restoreDefaults p tag body => some (p, 0x0C, tag, body)
  | .counterSetup p tag body => some (p, 0x0D, tag, body)
  | .preload p tag rest => some (p, 0x0E, tag, 0 :: rest)
  | .clear p tag rest => some (p, 0x0E, tag, 1 :: rest)
  | .clearFlags p tag rest => some (p, 0x0E, tag, 2 :: rest)
  | .freeze p tag rest => some (p, 0x0E, tag, 3 :: rest)
  | .unfreeze p tag rest => some (p, 0x0E, tag, 4 :: rest)
  | .elementRelease p tag body => some (p, 0x0F, tag, body)
  | .unknownRequest p kind tag body => some (p, kind, tag, body)
  | _ => none

/-- The request kinds with the ports on which each is allowed (R172) and its body length (R193), transcribed
row by row. -/
def requestTable : List (Nat × List Port × Nat) :=
  [(0x01, [.desk, .power, .service], 3), (0x02, [.desk, .power, .service], 0),
   (0x03, [.desk, .power, .service], 4), (0x04, [.desk, .service], 7), (0x05, [.desk, .service], 1),
   (0x06, [.desk], 0), (0x07, [.power], 2), (0x08, [.power], 4), (0x09, [.power], 0),
   (0x0A, [.service], 6), (0x0B, [.service], 0), (0x0C, [.service], 0), (0x0D, [.service], 6),
   (0x0E, [.service], 6), (0x0F, [.service], 1)]

/-- What a good frame does to its port whatever becomes of the request: the receiver hunts, the link is
LINKED, and its timer runs 2000 ms from the arrival (R169, R170); error counts stay. -/
def Heard (p : Port) (s t : State) : Prop :=
  (t.port p).receiver = .hunt ∧ (t.port p).frame = [] ∧ (t.port p).link = .linked ∧
    (t.port p).lastGood = some s.now ∧ (t.port p).linkTimer = some (s.now + 2000) ∧
    (t.port p).frameErrors = (s.port p).frameErrors

/-- The other two ports are as they were, their notices and attention lines apart. -/
def OtherPortsKept (p : Port) (s t : State) : Prop :=
  ∀ q, q ≠ p → (t.port q).quiet = (s.port q).quiet

/-- The request on a port was answered: its reply, of the request's kind plus 80h and its tag, stands at the
newest end of the port's queue, and no other port saw it (R171, R192). -/
def Answered (p : Port) (kind tag : Byte) (body : List Byte) (s t : State) : Prop :=
  Heard p s t ∧ OtherPortsKept p s t ∧ (t.port p).overruns = (s.port p).overruns ∧
    (t.port p).replies =
      (s.port p).replies ++ [{ kind := kind + 0x80#8, tag := tag, body := body }]

/-- A request also leaves the mask and the global enable of its port. -/
def MaskKept (p : Port) (s t : State) : Prop :=
  (t.port p).mask = (s.port p).mask ∧ (t.port p).globalEnable = (s.port p).globalEnable

/-- There is room for a reply on a port (R171, step 1). -/
def State.hasRoom (s : State) (p : Port) : Prop :=
  (s.port p).replies.length < 4

/-- A notice stands in a port's status set. -/
def State.holdsNotice (s : State) (p : Port) (c : Notice) : Bool :=
  (s.port p).notices.getLsbD c.code

/-- A notice was raised: it stands in the status sets of all three ports (R175). -/
def Raised (c : Notice) (t : State) : Prop :=
  ∀ p, t.holdsNotice p c = true

/-- No notice is lost from a status set. -/
def NoticesGrow (s t : State) : Prop :=
  ∀ p c, s.holdsNotice p c = true → t.holdsNotice p c = true

/-! ### The expiries of the timers -/

/-- A command is the expiry of a timer whose time has come: for each expiry of the command table, when it is
due. The end of a store's write comes at `storeEnd`, with the read-back that a free value gives
(notes/assumptions/3.md). -/
def State.expiryDue (s : State) : Instr → Prop
  | .doorInputFilterExpiry i =>
    let j := doorInputNo i
    let c := s.cfg.inputs[j]
    let width := if c.width = 0 then 0 else if c.width = 1 then 10 else if c.width = 2 then 40 else 160
    c.enable = true ∧ (s.input j).filtered ≠ s.sense j ∧ (s.input j).stableSince + width ≤ s.now
  | .lineFilterExpiry =>
    let filter := if s.sense lineInput = .active then s.cfg.restoreFilter else s.cfg.dropFilter
    s.cfg.inputs[lineInput].enable = true ∧ (s.input lineInput).filtered ≠ s.sense lineInput ∧
      (s.input lineInput).stableSince + filter ≤ s.now
  | .masterIntercharTimeout p =>
    (s.port p).receiver = .receiving ∧ (s.port p).lastChar + 5 ≤ s.now
  | .portLinkTimerExpiry p => due (s.port p).linkTimer s.now = true
  | .orderIntervalExpiry n => due (s.link n).orderTimer s.now = true
  | .spacingTimerExpiry n => due (s.link n).spacingTimer s.now = true
  | .echoTimeout n o => ∃ e ∈ (s.link n).window, e.number = o ∧ e.timeout ≤ s.now
  | .silenceTimerExpiry n => due (s.link n).silenceTimer s.now = true
  | .heldDrawTimerExpiry n => due (s.link n).heldTimer s.now = true
  | .holdTimerExpiry v =>
    (s.value v).quality = .fresh ∧ s.cfg.sensorHold < s.cfg.sensorDegrade ∧
      due ((s.value v).lastValid.map (· + s.cfg.sensorHold * 1000)) s.now = true
  | .degradeTimerExpiry v =>
    (s.value v).quality ≠ .missing ∧
      due ((s.value v).lastValid.map (· + s.cfg.sensorDegrade * 1000)) s.now = true
  | .regulationPass => due s.zr.passTimer s.now = true
  | .demistExitHoldExpiry => due s.sc.exitHold s.now = true
  | .defrostTimerExpiry => due s.sc.defrostTimer s.now = true
  | .glassTargetHoldExpiry => due s.sc.glassHold s.now = true
  | .heldTimerExpiry d => due (s.door d).heldTimer s.now = true
  | .trailingTimerExpiry d => due (s.door d).trailingTimer s.now = true
  | .decayEnd d => due (s.door d).decayTimer s.now = true
  | .doorTick => due s.ddc.tick s.now = true
  | .doorOpenSecond d =>
    let next := ((s.door d).secondsCounted + 1) * 1000
    next ≤ 600000 ∧ due ((s.door d).openStart.map (· + next)) s.now = true
  | .dewireTimerExpiry => due s.pa.dewireTimer s.now = true
  | .envelopeHoldExpiry => due s.pa.envTimer s.now = true
  | .restoreStep => due s.pa.stepTimer s.now = true
  | .allocationTimerExpiry => due s.pa.allocTimer s.now = true
  | .shortfallTimerExpiry c => due (s.class c).timer s.now = true
  | .surplusWindowEndTime => due s.pa.surplus.endTime s.now = true
  | .energy => due s.pa.drawTimer s.now = true
  | .lockoutTimerExpiry i => due (s.elem i).lockoutTimer s.now = true
  | .beatSlotBoundary => due s.es.slotTimer s.now = true
  | .overrideExpiry e => due ((s.entry e).bind (·.expiry)) s.now = true
  | .storeCompletion readBack =>
    s.cs.storeState = .storing ∧ s.storeEnd ≤ s.now ∧
      readBack = Config.freeReadBack s.cs.storeStart
  | _ => False

/-! ### Finer frames -/

/-- The power record after a pass is `before` but for what a pass writes: the members' demands, held draws
and grants, the class records and the absorbed amounts. No posted value changes. -/
def Allocated (before : PowerAllocator) (t : State) : Prop :=
  t.pa = { before with
    members := t.pa.members, classes := t.pa.classes,
    surplus := { before.surplus with absorbed := t.pa.surplus.absorbed } } ∧
  ∀ m : Fin 18, (t.member m).posted = before.members[m].posted

/-- No demand of the demand table changes. -/
def DemandsKept (s t : State) : Prop :=
  ∀ m, (t.member m).demand = (s.member m).demand

/-- The element stager after a staging is `before` but for what a staging writes: the levels, granted
portions and draws of the elements, when a contactor closed or opened, and the closure queue. -/
def Staged (before : ElementStager) (t : State) : Prop :=
  t.es = { before with elems := t.es.elems, queue := t.es.queue } ∧
  ∀ i : SlotNo, t.elem i =
    { before.elems[i] with
      closed := (t.elem i).closed, granted := (t.elem i).granted, duty := (t.elem i).duty,
      draw := (t.elem i).draw, closedSince := (t.elem i).closedSince,
      openedSince := (t.elem i).openedSince }

/-- A link context is `before` but for an order that came due or was sent (R139). -/
def LinkCtx.sentFrom (k before : LinkCtx) : Prop :=
  k = { before with
    window := k.window, nextNumber := k.nextNumber, pendingMarker := k.pendingMarker,
    spacingTimer := k.spacingTimer, orderTimer := k.orderTimer, lastOrder := k.lastOrder } ∧
  ∃ sent, k.window = before.window ++ sent ∧ sent.length ≤ 1

/-- The links are as they were but for the orders that the event made due. -/
def OrdersSent (s t : State) : Prop :=
  ∀ n, (t.link n).sentFrom (s.link n)

/-- The classes that rank above a class (R98). -/
def classesAbove : HeatClass → List HeatClass
  | .screen => []
  | .cab => [.screen]
  | .door => [.screen, .cab]
  | .saloon => [.screen, .cab, .door]

/-- The classes that rank below a class (R98). -/
def classesBelow : HeatClass → List HeatClass
  | .screen => [.cab, .door, .saloon]
  | .cab => [.door, .saloon]
  | .door => [.saloon]
  | .saloon => []

/-- The members of a class in the order of their numbers: the table of R98. -/
def membersOf : HeatClass → List (Fin 18)
  | .screen => [0, 1]
  | .cab => [2]
  | .door => [3, 4, 5, 6, 7, 8, 9, 10, 11, 12]
  | .saloon => [13, 14, 15, 16, 17]

/-- The class records and member grants that a pass has left: demand and held draw of each class are those of
its members, the reserves and what is shared out beyond them go by the order of the classes, and each class
grant is divided among its members beyond what they hold (R101, R104 to R106). -/
def HeatDivided (t : State) : Prop :=
  ∀ k : HeatClass,
    let c := t.class k
    let total (f : ClassRec → Nat) (ks : List HeatClass) : Nat := (ks.map fun j => f (t.class j)).sum
    let ms := membersOf k
    let held := ms.map fun m => (t.member m).held
    let wants := ms.map fun m => max (t.member m).demand (t.member m).held - (t.member m).held
    let remaining := t.budget - total (·.reserve) (classesAbove k)
    let free := remaining - total (·.held) (classesBelow k)
    let shared := total (fun j => j.grant - j.reserve) (classesAbove k)
    c.demand = (ms.map fun m => max (t.member m).demand (t.member m).held).sum ∧
      c.held = held.sum ∧
      c.reserve = max c.held (min c.demand (min t.cfg.quota[k.index] free)) ∧
      c.grant = c.reserve +
        min (c.demand - c.reserve)
          (t.budget - total (·.reserve) [.screen, .cab, .door, .saloon] - shared) ∧
      (ms.map fun m => (t.member m).grant) =
        List.zipWith (· + ·) held (divide (c.grant - c.held) wants)

/-- An override entry apart from its AIR state. -/
def Entry.plain (e : Entry) : Entry :=
  { e with suspended := false }

/-- The slots of the override table but those named hold what they held, the states of AIR entries
apart. -/
def EntriesKept (changed : List EntryNo) (s t : State) : Prop :=
  ∀ e, e ∉ changed → (t.entry e).map Entry.plain = (s.entry e).map Entry.plain

/-- Whether an active restore ceiling stays active under an envelope (R96). -/
def State.ceilingStays (s : State) (envelope : Nat) : Bool :=
  s.pa.ceilingActive && decide (s.pa.ceiling < envelope)

/-- The step timer of the ceiling under an envelope: it stops when the ceiling becomes inactive (R96). -/
def State.stepTimerUnder (s : State) (envelope : Nat) : Timer :=
  if s.pa.ceilingActive && !s.ceilingStays envelope then none else s.pa.stepTimer

/-- The surplus record after an end of any open window (R110). -/
def State.surplusEnded (s : State) : SurplusRec :=
  if s.pa.surplus.isOpen then SurplusRec.closed else s.pa.surplus

/-! ### Counted events -/

/-- Since `s` an event has been signalled with these occurrences, each a qualifier and a quantity, in this
order, and with no other: what the counters set to it have taken, where no counter freezes the others (R181 to
R183). -/
def Signalled (ev : CountedEvent) (occurrences : List (Option Nat × Nat)) (s t : State) : Prop :=
  (∀ k : Fin 8, s.ac[k].setup.freezeOnOverflow = false) →
    ∀ k : Fin 8, s.ac[k].setup.event = ev →
      t.ac[k] = occurrences.foldl (fun c o => c.occur ev o.1 o.2) s.ac[k]

/-- FORCED-SHED as one event signals it: once with the number of contactors, and not for none (R92, R103,
R118). -/
def shedOnce (n : Nat) : List (Option Nat × Nat) :=
  if n = 0 then [] else [(none, n)]

/-! ### Held contactors and their release (R101, R103) -/

/-- The sum of the ratings of some slots. -/
def State.ratings (s : State) (l : List SlotNo) : Nat :=
  (l.map fun i => (s.slot i).rating).sum

/-- An element ordered CLOSED has been closed for less than the minimum on-time. -/
def State.closedShort (s : State) (i : SlotNo) : Bool :=
  (s.elem i).closed &&
    match (s.elem i).closedSince with
    | some m => decide (s.now < m + s.cfg.minOn * 1000)
    | none => false

/-- A slot is one of a zone's contactors in service. -/
def State.contactorOf (s : State) (z : ZoneNo) (i : SlotNo) : Bool :=
  (s.slot i).kind == .contactor && (s.slot i).owner == .zone z && (s.elem i).state == .inService

/-- A slot counts to the held draw of a zone (R101). -/
def State.heldOf (s : State) (z : ZoneNo) (i : SlotNo) : Bool :=
  s.contactorOf z i && s.closedShort i

/-- A slot counts to the held draw of some zone. -/
def State.isHeld (s : State) (i : SlotNo) : Bool :=
  (List.finRange 6).any fun z => s.heldOf z i

/-- The order of the releases: SALOON before CAB, the latest closed-since time first, the higher slot number
first among equals (R103). -/
def State.releasedBefore (s : State) (i j : SlotNo) : Bool :=
  let cab (x : SlotNo) : Bool := (s.slot x).owner == .zone 0
  let since (x : SlotNo) : Nat := (s.elem x).closedSince.getD 0
  (cab j && !cab i) ||
    (cab i == cab j && (decide (since j < since i) || (since i == since j && decide (j < i))))

/-- Step 1 of a pass releases a held contactor while it and those that come after it in the order hold more
than the budget (R103). -/
def State.released (s : State) (i : SlotNo) : Bool :=
  s.isHeld i &&
    decide (s.budget < s.ratings (allSlots.filter fun j => s.isHeld j && !s.releasedBefore j i))

/-- All that is held fits the budget, so that a pass releases nothing (R103). -/
def State.heldFits (s : State) : Prop :=
  s.ratings (allSlots.filter s.isHeld) ≤ s.budget

/-- The loss of a node has been counted: one FORCED-SHED with the number of its contactors that were within
their minimum on-time, where the budget carries every held contactor (R118, R145). -/
def LossCounted (n : Node) (s t : State) : Prop :=
  s.heldFits → Signalled .forcedShed
    (shedOnce (allSlots.filter fun i =>
      (s.slot i).present && (s.slot i).node == n && (s.elem i).state == .inService &&
        s.closedShort i).length) s t

/-- An element record ordered open at a time. -/
def ElemRec.opened (now : Nat) (e : ElemRec) : ElemRec :=
  { e with closed := false, closedSince := none, openedSince := some now }

/-- The state after step 1 of a pass, the signal apart: every released contactor is open (R103). -/
def State.afterRelease (s : State) : State :=
  { s with es := { s.es with
      elems := Vector.ofFn fun i : SlotNo =>
        if s.released i then (s.elem i).opened s.now else s.elem i } }

/-! ### What a staging leaves (R119 to R124) -/

/-- A modulated element stands as its granted portion and the heat that it may draw set it: granted portion,
duty and draw (R122, R123). -/
def SetTo (t : State) (i : SlotNo) (portion heat : Nat) : Prop :=
  let rating := (t.slot i).rating
  let duty := min 64 (heat * 64 / rating)
  (t.elem i).granted = min portion rating ∧ (t.elem i).duty = duty ∧
    (t.elem i).draw = (rating * duty + 63) / 64

/-- The levels of every modulated element, curtain and film in service stand as the grant table and the
absorbed amounts set them: the zone's from what its contactors ordered CLOSED or queued leave of the zone
grant, a curtain and the film from the member grant, each but a curtain with its absorbed amount (R122,
R123). -/
def LevelsStaged (t : State) : Prop :=
  (∀ z i, t.modulated z = some i →
    let left := t.zoneGrant z -
      t.ratings (allSlots.filter fun j =>
        t.contactorOf z j && ((t.elem j).closed || t.es.queue.contains j))
    SetTo t i left (left + t.absorbed i)) ∧
  (∀ (d : DoorNo) (i : SlotNo), t.ownedSlot (.curtain d) = some i →
    (t.elem i).state = .inService →
    SetTo t i (t.member (curtainMember d)).grant (t.member (curtainMember d)).grant) ∧
  ∀ i, t.ownedSlot .screen = some i → (t.elem i).state = .inService →
    SetTo t i (t.member filmMember).grant ((t.member filmMember).grant + t.absorbed i)

/-- A contactor waits out its minimum off-time: ordered OPEN, not queued, and open for less than that time
(R120). -/
def State.waits (s : State) (i : SlotNo) : Bool :=
  !(s.elem i).closed && !s.es.queue.contains i &&
    match (s.elem i).openedSince with
    | some m => decide (s.now < m + s.cfg.minOff * 1000)
    | none => false

/-- The contactors that R120 chooses for a zone under a grant: of the subsets of the free ones that fit
beside the held ones, one of the largest sum; among these one of the greatest rating already ordered CLOSED
or queued; among these the one with the lower slot number at the first difference. -/
def Chosen (s : State) (z : ZoneNo) (grant : Nat) (l : List SlotNo) : Prop :=
  let own := allSlots.filter (s.contactorOf z)
  let held := s.ratings (own.filter s.closedShort)
  let free := own.filter fun i => !s.closedShort i && !s.waits i
  let kept (x : List SlotNo) : Nat :=
    s.ratings (x.filter fun i => (s.elem i).closed || s.es.queue.contains i)
  let fits (x : List SlotNo) : Prop := x.Sublist free ∧ held + s.ratings x ≤ grant
  fits l ∧
    ∀ x, fits x → x = l ∨ s.ratings x < s.ratings l ∨
      (s.ratings x = s.ratings l ∧ (kept x < kept l ∨ (kept x = kept l ∧ l < x)))

/-- The contactors of every zone have been switched from how they stood in `s` to those that R120 chooses
for its grant: the held and the chosen stay CLOSED, the other closed ones are ordered open, the queue holds
just the chosen ones that are not yet closed (R121). -/
def ContactorsSwitched (s t : State) : Prop :=
  ∀ z, ∃ l, Chosen s z (t.zoneGrant z) l ∧
    ∀ i, s.contactorOf z i = true →
      (t.elem i = if (s.elem i).closed = true ∧ s.closedShort i = false ∧ i ∉ l then
          (s.elem i).opened s.now
        else s.elem i) ∧
      (i ∈ t.es.queue ↔ (s.elem i).closed = false ∧ i ∈ l)

/-- The closure queue has room for every contactor in service (R124). -/
def State.queueHasRoom (s : State) : Prop :=
  s.es.queue.length +
    (allSlots.filter fun i =>
      ((List.finRange 6).any fun z => s.contactorOf z i) && !s.es.queue.contains i).length ≤ 12

/-- No absorbed amount has grown, and each that stands fits its element beside the granted portion (R111). -/
def SurplusTrimmed (shares : SlotNo → Nat) (t : State) : Prop :=
  ∀ i, t.absorbed i ≤ shares i ∧ t.absorbed i ≤ (t.slot i).rating - (t.elem i).granted

/-! ### Doors -/

/-- Curtain heat and curtain blower of a door whose record is `r`: the table of R82, transcribed row by row.
-/
def State.curtainTable (s : State) (d : DoorNo) (r : DoorRec) : Nat × CurtainBlower :=
  let rating := ownedRating s.cfg (.curtain d)
  let running := r.trailingTimer.isSome
  let row : Nat × CurtainBlower :=
    match r.state with
    | .closed => (0, .off)
    | .armed => (0, .low)
    | .open => (rating, .high)
    | .held => (rating * s.cfg.heldShare / 100, .high)
    | .trailing => if running then (rating, .high) else (0, .off)
  if s.curtainOff d then (0, .off)
  else if s.st.outsideTemp < s.cfg.curtainThreshold then row
  else (0, row.2)

/-- A door record with the curtain values of R82. -/
def State.withCurtain (s : State) (d : DoorNo) (r : DoorRec) : DoorRec :=
  { r with curtainHeat := (s.curtainTable d r).1, curtainBlower := (s.curtainTable d r).2 }

/-- The pre-boost of a door, from the mean of its ring (R72, R74). -/
def State.preBoostOf (s : State) (d : DoorNo) : Nat :=
  let ring := (s.door d).ring
  if ring = [] then s.cfg.bd[d] / 2
  else s.cfg.bd[d] * min (ring.sum / ring.length) 200 / 200

/-- The record of a door after an input, DR1 to DR4 or REL, has settled at a sense: an open contact opens the
door, a closed one starts its trailing with the decay of its dwell, a release arms the closed doors in use
and its end closes the armed ones (R73 to R77). The contribution is left to the posting. -/
def State.doorAfterInput (s : State) (input : Fin 5) (sense : Filtered) (d : DoorNo) : DoorRec :=
  let r := s.door d
  let w :=
    match r.openStart with
    | some m => min 600000 (s.now - m)
    | none => r.dwell
  let decay := max 5000 (min (2 * w) 60000)
  let opened := s.withCurtain d { r with
    state := .open, openStart := some s.now, dwell := 0, secondsCounted := 0,
    level := s.cfg.bd[d], heldTimer := some (s.now + s.cfg.heldLimit * 1000),
    trailingTimer := none, decayTime := none, decayRemaining := none, decayTimer := none,
    vclose := none }
  let closing := s.withCurtain d { r with
    state := .trailing
    ring := (if r.ring.length < 8 then r.ring else r.ring.tail) ++ [min 6000 (w / 100)]
    vclose := some r.level, decayTime := some decay, decayRemaining := some decay,
    decayTimer := some (s.now + decay), heldTimer := none, dwell := w, openStart := none
    trailingTimer :=
      if 0 < s.cfg.trailingTime then some (s.now + s.cfg.trailingTime * 1000) else none }
  let armed := s.withCurtain d { r with
    state := .armed, openStart := none, decayTime := none, decayRemaining := none,
    decayTimer := none, level := s.preBoostOf d }
  let closed := s.withCurtain d { r with
    state := .closed, level := 0, openStart := none, decayTime := none,
    decayRemaining := none, decayTimer := none }
  if input.val = d.val ∧ r.inUse = true then
    if sense = .inactive then
      match r.state with
      | .closed => opened
      | .armed => opened
      | .trailing => opened
      | .open => r
      | .held => r
    else
      match r.state with
      | .open => closing
      | .held => closing
      | .closed => r
      | .armed => r
      | .trailing => r
  else if input.val = 4 then
    if sense = .active then
      if r.state = .closed ∧ r.inUse = true then armed else r
    else if r.state = .armed then closed
    else r
  else r

/-- The Door Draft Controller has posted: each door's contribution to a zone is its level times its weight /
4, each zone's door part is their sum, and each curtain member is its door's curtain heat (R83, R84, R89).
-/
def DoorsPosted (t : State) : Prop :=
  (∀ (d : DoorNo) (z : ZoneNo),
    (t.door d).contribution[z] = (t.door d).level * (t.cfg.weights[d])[z] / 4) ∧
  (∀ z : ZoneNo, (t.member (doorMember z)).posted =
    (allDoors.map fun d => (t.door d).contribution[z]).sum) ∧
  ∀ d, (t.member (curtainMember d)).posted = (t.door d).curtainHeat

/-- The Door Draft Controller has posted nothing: the contributions and its ten members are as they were. -/
def DoorsNotPosted (s t : State) : Prop :=
  (∀ d, (t.door d).contribution = (s.door d).contribution) ∧
  (∀ z, (t.member (doorMember z)).posted = (s.member (doorMember z)).posted) ∧
  ∀ d, (t.member (curtainMember d)).posted = (s.member (curtainMember d)).posted

/-- DOOR-OPEN has been signalled for the doors that have entered OPEN and for no other (R75, R181): what the
counters set to it have taken, where no counter freezes the others. -/
def DoorOpenCounted (s t : State) : Prop :=
  (∀ k : Fin 8, s.ac[k].setup.freezeOnOverflow = false) →
    ∀ k : Fin 8, s.ac[k].setup.event = .doorOpen →
      (∀ d : DoorNo, (t.door d).state = .open → (s.door d).state ≠ .open →
        t.ac[k] = s.ac[k].occur .doorOpen (some d.val) 1) ∧
      ((∀ d : DoorNo, (t.door d).state = .open → (s.door d).state = .open) →
        t.ac[k] = s.ac[k])

/-- What follows when an input of the doors has settled at a sense: every door moves as R73 to R77 say, a
moved door makes the DDC post, and an entry to OPEN is counted. -/
def DoorsMoved (input : Fin 5) (sense : Filtered) (s t : State) : Prop :=
  (∀ d, t.door d =
    { s.doorAfterInput input sense d with contribution := (t.door d).contribution }) ∧
  ((∃ d, (t.door d).state ≠ (s.door d).state) → DoorsPosted t) ∧
  ((∀ d, (t.door d).state = (s.door d).state) → DoorsNotPosted s t) ∧
  DoorOpenCounted s t ∧ t.ddc.tick = s.ddc.tick

/-- Every curtain has been computed anew, and the DDC has posted where a curtain heat has changed (R82, R84).
-/
def CurtainsFollow (s t : State) : Prop :=
  (∀ d, t.door d =
    { t.withCurtain d (s.door d) with contribution := (t.door d).contribution }) ∧
  ((∃ d, (t.door d).curtainHeat ≠ (s.door d).curtainHeat) → DoorsPosted t) ∧
  ((∀ d, (t.door d).curtainHeat = (s.door d).curtainHeat) → DoorsNotPosted s t) ∧
  t.ddc.tick = s.ddc.tick

/-- To and its source are those that the outside records and the fallback item give (R15). -/
def OutsideSelected (t : State) : Prop :=
  (t.st.outsideTemp, t.st.outsideSource) =
    match (t.value (.outside .front)).usable, (t.value (.outside .rear)).usable with
    | some x, _ => (x, .front)
    | none, some x => (x, .rear)
    | none, none => (t.cfg.fallbackOutside, .fallback)

/-- A door in OPEN or HELD has an open-start time, and no dwell is above its cap (R71, R75, R76). -/
def State.doorsRight (s : State) : Prop :=
  ∀ d, ((s.door d).state = .open ∨ (s.door d).state = .held → (s.door d).openStart ≠ none) ∧
    (s.door d).dwell ≤ 600000

/-! ### Invariants -/

/-- The attention line of every port is at the level that R176 gives. -/
def State.linesRight (s : State) : Bool :=
  s.mpu.desk.attention == s.mpu.desk.lineLevel &&
    s.mpu.power.attention == s.mpu.power.lineLevel &&
    s.mpu.service.attention == s.mpu.service.lineLevel

/-- Every reply queue holds at most four replies (R168). -/
def State.repliesFit (s : State) : Bool :=
  decide (s.mpu.desk.replies.length ≤ 4) && decide (s.mpu.power.replies.length ≤ 4) &&
    decide (s.mpu.service.replies.length ≤ 4)

/-- The invariant of the Master Port Unit: attention lines and reply queues (R168, R176). -/
def State.portsRight (s : State) : Bool :=
  s.linesRight && s.repliesFit

/-- The invariant of the stage beat and the closure queue: a counter of 0 to 63, one level on both
period-mark lines, at most 12 queued contactors, none twice (R124, R126, R127). -/
def State.beatRight (s : State) : Bool :=
  decide (s.es.slotCounter ≤ 63) && s.es.pmf == s.es.pmr &&
    decide (s.es.queue.length ≤ 12) && decide s.es.queue.Nodup

/-- The closure queue holds contactors of the zones that are in service, present and ordered open, in the
order of R124: those of CAB first, and ascending slot numbers within a class. -/
def State.queueRight (s : State) : Prop :=
  (∀ i ∈ s.es.queue, (∃ z, s.contactorOf z i = true) ∧ (s.slot i).present = true ∧
    (s.elem i).closed = false) ∧
  s.es.queue.Pairwise fun i j =>
    let cab (x : SlotNo) : Prop := (s.slot x).owner = .zone 0
    (cab i ∧ ¬ cab j) ∨ ((cab i ↔ cab j) ∧ i < j)

/-- No two held entries have the same kind, target and source (R152). -/
def State.tableRight (s : State) : Prop :=
  ∀ e f : EntryNo, ∀ x y : Entry, s.entry e = some x → s.entry f = some y →
    x.kind = y.kind → x.target = y.target → x.source = y.source → e = f

/-- A record has a value in use exactly when its quality is not MISSING (R11, R13). -/
def State.samplesRight (s : State) : Prop :=
  ∀ v, (s.value v).quality = .missing ↔ (s.value v).value = none

/-- A zone record's integrator lies within ±(Imax × 256) and is 0 while a reason that clears it is
recorded; its state is the one that its reasons rank (R22, R24, R25, R32). -/
def ZoneRec.integratorRight (imax : Nat) (r : ZoneRec) : Prop :=
  -((imax : Int) * 256) ≤ r.integ ∧ r.integ ≤ (imax : Int) * 256 ∧
    (r.reasons.off = true ∨ r.reasons.missing = true → r.integ = 0) ∧ r.state = r.reasons.rank

/-- The invariant of the integrators, with that of the Sample Table which it needs (R32). -/
def State.integratorsRight (s : State) : Prop :=
  s.samplesRight ∧ ∀ z, (s.zone z).integratorRight s.cfg.imax

/-- The screen-air request is the one that the screen's state and acting mode order (R52), and while it is
asserted the front commanded fresh fraction is at least the demist floor (R45). -/
def State.floorRight (s : State) : Prop :=
  s.sc.airRequest = requestFor s.sc.state s.sc.acting ∧
    (s.sc.airRequest = true → s.cfg.demistFloor ≤ s.zr.airFront.commanded)

/-- The state of every held entry: an AIR entry is SUSPENDED exactly while the request is asserted and its
group lies in the front section, every other entry is ACTIVE (R163). -/
def State.airEntriesRight (s : State) : Prop :=
  ∀ e x, s.entry e = some x → x.suspended = (s.sc.airRequest && x.airInFront s.cfg)

/-- Every slot that is not present holds an ABSENT element, and every rating is at least 1 (R116, R117). -/
def State.slotsRight (s : State) : Prop :=
  ∀ i, ((s.slot i).present = false ↔ (s.elem i).state = .absent) ∧ 1 ≤ (s.slot i).rating

/-- Every heater element is ordered off. -/
def State.heatersOff (s : State) : Prop :=
  ∀ i, (s.elem i).closed = false ∧ (s.elem i).duty = 0

/-- While the line is not present every heater element is ordered off, the closure queue is empty, nothing is
granted and no surplus is absorbed (R92, R110). -/
def State.gapRight (s : State) : Prop :=
  s.pa.line ≠ .present →
    s.heatersOff ∧ s.es.queue = [] ∧ (∀ m, (s.member m).grant = 0) ∧ ∀ i, s.absorbed i = 0

/-- The absorbed draw is 0 while no surplus window is open (R109). -/
def State.surplusRight (s : State) : Prop :=
  s.pa.surplus.isOpen = false → ∀ i, s.absorbed i = 0

/-- The parts of a zone in the demand table lie within its available rating and its resolved ZONE-CAP, and are
0 while a ZONE-OFF override resolves (R100). -/
def State.partsWithin (s : State) (z : ZoneNo) : Prop :=
  let sum := s.screenPart z (·.demand) + (s.member (baseMember z)).demand +
    (s.member (doorMember z)).demand
  sum ≤ s.available z ∧ (∀ cap, s.zoneCap z = some cap → sum ≤ cap) ∧
    (s.zoneOff z = true → sum = 0)

/-- The invariant of the demand table (R100). -/
def State.demandsRight (s : State) : Prop :=
  ∀ z, s.partsWithin z

/-- The grants of the four classes together, and of the members of each class (R105, R106). -/
def State.grantsRight (s : State) : Prop :=
  (allClasses.map fun c => (s.class c).grant).sum ≤ s.budget ∧
    ∀ c, ((classMembers c).map fun m => (s.member m).grant).sum = (s.class c).grant

/-- Every outstanding order names a slot at most once (R136). -/
def LinkCtx.slotsDistinct (k : LinkCtx) : Prop :=
  ∀ e ∈ k.window, (e.levels.map (·.slot)).Nodup

/-- No link holds back an order that it may send (R139). -/
def State.linksSettled (s : State) : Prop :=
  ∀ n, (s.link n).pendingMarker = true → s.maySend n = false

/-! ### The screen -/

/-- A screen record that has taken a state and an acting mode with what they order: the table of R52,
transcribed row by row, the film barred by the latch (R51). -/
def ScreenRec.taking (c : Settings) (st : ScreenState) (am : Option ActingMode) (r : ScreenRec) :
    ScreenRec :=
  let rating := ownedRating c .screen
  let ordered (flap : Flap) (request : Bool) (film part : Nat) : ScreenRec :=
    { r with
      state := st, acting := am, flap := flap, airRequest := request
      filmPosted := if r.filmLatch then 0 else film
      partPosted := part }
  match st, am with
  | .clear, _ => ordered .floor false 0 0
  | .watch, _ => ordered .mix false 0 0
  | .demist, _ => ordered .screen true (rating * c.filmShare / 100) c.qDemist
  | .defrost, _ => ordered .screen true rating c.qDefrost
  | .failsafe, some .demist => ordered .screen true (rating * c.filmShare / 100) c.qDemist
  | .failsafe, _ => ordered .floor false 0 0

/-- A screen record that posts anew what its state and acting mode call for (R64). -/
def ScreenRec.reposting (c : Settings) (r : ScreenRec) : ScreenRec :=
  { r with
    filmPosted := (r.taking c r.state r.acting).filmPosted
    partPosted := (r.taking c r.state r.acting).partPosted }

/-- The film member and the screen part hold what the screen record says it has posted (R64). -/
def ScreenPosted (t : State) : Prop :=
  (t.member filmMember).posted = t.sc.filmPosted ∧
    (t.member screenPartMember).posted = t.sc.partPosted

/-- The Screen Controller has posted nothing: its two members are as they were. -/
def ScreenNotPosted (s t : State) : Prop :=
  (t.member filmMember).posted = (s.member filmMember).posted ∧
    (t.member screenPartMember).posted = (s.member screenPartMember).posted

/-- What a change of the screen hands to the Zone Regulator while the request is asserted: the floor of the
front section air and the level of the CAB blower (R42, R45, R63). -/
def ScreenHanded (t : State) : Prop :=
  t.sc.airRequest = true → t.cfg.demistFloor ≤ (t.air .front).commanded ∧ (t.zone 0).blower = 3

/-- State and acting mode that follow a defrost cycle (R53, R57, R61), under the entry thresholds of the last
computation (R65). -/
def State.afterDefrost (s : State) : ScreenState × Option ActingMode :=
  let failsafe : ScreenState × Option ActingMode :=
    (.failsafe, some (if s.st.outsideTemp < 50 then .demist else .clear))
  if s.sc.tgQuality = .missing ∨ s.sc.rhQuality = .missing then failsafe
  else
    match s.sc.margin with
    | none => failsafe
    | some m =>
      (if s.sc.mWatch ≤ m then .clear else if s.sc.mOn ≤ m then .watch else .demist, none)

/-- What becomes of the defrost cycle when the Override Table has changed: a cycle whose DEFROST entry has
left the table ends CANCELLED, and otherwise the screen stays as it is (R61, R158). -/
def CycleFollows (s t : State) : Prop :=
  if s.sc.state = .defrost ∧ s.sc.origin = .placed ∧
      ∀ e y, t.entry e = some y → y.kind ≠ .defrost then
    t.sc = ({ s.sc with
      origin := .none, lastEnd := .cancelled, defrostTimer := none, glassHold := none
      exitHold := t.sc.exitHold }).taking s.cfg s.afterDefrost.1 s.afterDefrost.2 ∧
      Raised .defrostDone t ∧ ScreenPosted t ∧ ScreenHanded t
  else t.sc = s.sc ∧ ScreenNotPosted s t

/-! ### The demand table -/

/-- The demands of a zone's screen, base and door parts under its limit, in the order of R100. -/
def State.clampedParts (s : State) (z : ZoneNo) : Nat × Nat × Nat :=
  let limit :=
    match s.zoneCap z with
    | some cap => min cap (s.available z)
    | none => s.available z
  let screen := min (s.screenPart z (·.posted)) limit
  let base := min (s.member (baseMember z)).posted (limit - screen)
  let door := min (s.member (doorMember z)).posted (limit - screen - base)
  if s.zoneOff z then (0, 0, 0) else (screen, base, door)

/-- The demand of a film or curtain member with a posted value, by the element that its owner holds (R99). -/
def State.clampedOwned (s : State) (o : Owner) (posted : Nat) : Nat :=
  match s.ownedSlot o with
  | some i => if (s.elem i).state = .inService then min posted (s.slot i).rating else 0
  | none => 0

/-- Every demand of the demand table stands at its clamp (R99, R100). -/
def AllClamped (t : State) : Prop :=
  (∀ z, t.zoneDemands z = t.clampedParts z) ∧
    (t.member filmMember).demand = t.clampedOwned .screen (t.member filmMember).posted ∧
    ∀ d, (t.member (curtainMember d)).demand =
      t.clampedOwned (.curtain d) (t.member (curtainMember d)).posted

/-! ### What the Override Table hands on -/

/-- The blower level of a zone from its base level and the floors of R42. -/
def State.flooredLevel (s : State) (z : ZoneNo) : Nat :=
  if z.val = 0 ∧ s.sc.airRequest = true then 3
  else if (s.zone z).reasons.off then 0
  else if s.mappedDoorIn z [.open, .trailing] then max 2 (s.zone z).baseBlower
  else (s.zone z).baseBlower

/-- One zone after a change of the Override Table: a zone that ZONE-OFF has come to cover is cleared with a
base part of 0, one that it covers no longer takes the state of its other reasons, and any other keeps its
record but for the blower that a screen change moves (R24, R42, R63). -/
def ZoneHandedOn (s t : State) (z : ZoneNo) : Prop :=
  let r := s.zone z
  let kept : ZoneRec := { r with blower := (t.zone z).blower }
  let base (x : State) : Nat := (x.member (baseMember z)).posted
  if t.zoneOff z ≠ s.zoneOff z ∧ t.zoneOff z ≠ r.reasons.off then
    (t.zone z).blower = t.flooredLevel z ∧
      if t.zoneOff z = true then
        t.zone z = { kept with
          reasons := { r.reasons with off := true }, state := .off
          integ := 0, hb := 0, quantHb := 0, lastPosted := 0, lowerStop := true
          upperStop := false, err := some 0, prop := 0, iTerm := 0, feed := 0 } ∧ base t = 0
      else
        t.zone z = { kept with
          reasons := { r.reasons with off := false }
          state := { r.reasons with off := false }.rank } ∧ base t = base s
  else
    t.zone z = kept ∧ base t = base s ∧
      (t.sc = s.sc ∨ (z ≠ 0 ∧ t.sc.airRequest = s.sc.airRequest) → t.zone z = r)

/-- The doors after a change of the Override Table: the curtains of those whose CURTAIN-OFF resolution
changed are recomputed, and the DDC then posts (R82, R84, R158). -/
def CurtainsHandedOn (s t : State) : Prop :=
  let moved (d : DoorNo) : Prop := t.curtainOff d ≠ s.curtainOff d
  (∀ d, t.door d =
    { (if moved d then t.withCurtain d (s.door d) else s.door d) with
      contribution := (t.door d).contribution }) ∧
    ((∃ d, moved d) → DoorsPosted t) ∧
    ((∀ d, ¬ moved d) → t.ddc = s.ddc ∧ DoorsNotPosted s t)

/-- What the Override Table hands on when its resolutions have changed from one state to another: the OFF
reasons, the clamps with a pass where a demand moved, the curtains; and nothing where no resolution changed
(R158). -/
def HandedOn (s t : State) : Prop :=
  let cut (z : ZoneNo) : Prop := t.zoneOff z ≠ s.zoneOff z ∨ t.zoneCap z ≠ s.zoneCap z
  (∀ z, ZoneHandedOn s t z) ∧
    (∀ z, cut z → t.zoneDemands z = t.clampedParts z ∧
      (t.zoneDemands z ≠ s.zoneDemands z → t.grantsRight)) ∧
    CurtainsHandedOn s t ∧
    (t.sc = s.sc → (∀ z, ¬ cut z) → (∀ d, t.curtainOff d = s.curtainOff d) →
      Keeps [.overrides, .links, .counters, .store, .notices, .ports] s t)

/-! ### The accounted draw (R112) -/

/-- The held draws of the nodes in LOST within their release interval (R146). -/
def State.lostDraw (s : State) : Nat :=
  ([Node.front, .rear].map fun n =>
    if (s.link n).state = .lost ∧ (s.link n).heldTimer ≠ none then (s.link n).heldDraw else 0).sum

/-- The accepted surplus of an open window. -/
def State.openSurplus (s : State) : Nat :=
  if s.pa.surplus.isOpen then s.pa.surplus.accepted else 0

/-- The accounted draw never exceeds the effective budget plus the accepted surplus of an open window, but by
the held draw of a LOST node (R112). -/
def State.drawWithin (s : State) : Prop :=
  s.accountedDraw ≤ s.budget + s.openSurplus + s.lostDraw

/-! ### The checks of SET-CONFIG -/

/-- The structural constraints of the element map, transcribed one by one (R5). -/
def Settings.mapKept (c : Settings) : Prop :=
  (∀ i : SlotNo, c.slots[i].present = true →
      ((∀ z, c.slots[i].owner ≠ .zone z) → c.slots[i].kind = .modulated) ∧
        c.slots[i].output ≤ 15) ∧
    (∀ i j : SlotNo, i ≠ j → c.slots[i].present = true → c.slots[j].present = true →
      (c.slots[i].owner = c.slots[j].owner →
        (∃ z, c.slots[i].owner = .zone z) ∧
          ¬ (c.slots[i].kind = .modulated ∧ c.slots[j].kind = .modulated)) ∧
      (c.slots[i].node = c.slots[j].node → c.slots[i].output ≠ c.slots[j].output)) ∧
    ∀ z, ((allSlots.filter fun i => c.slots[i].present && c.slots[i].owner == .zone z).map
      fun i => c.slots[i].rating).sum ≤ 120

/-- The order of the margin thresholds (R65). -/
def Settings.orderKept (c : Settings) : Prop :=
  c.mOn ≤ c.mOff ∧ c.mOff ≤ c.mWatch

/-- The values that SET-CONFIG accepts for an item, clamped where the item has a plain range: the codes and
sets of R186 and R187, the element map of R5 and the threshold order of R65. -/
def Acceptable (c : Settings) (it : Item) (asked : Int) : Prop :=
  let changed := c.put it (max it.range.1 (min asked it.range.2))
  match it with
  | .presence _ => (asked = 0 ∨ asked = 1) ∧ changed.mapKept
  | .node _ => (asked = 0 ∨ asked = 1) ∧ changed.mapKept
  | .kind _ => (asked = 0 ∨ asked = 1) ∧ changed.mapKept
  | .output _ => 0 ≤ asked ∧ asked ≤ 15 ∧ changed.mapKept
  | .owner _ =>
    ((0 ≤ asked ∧ asked ≤ 5) ∨ (11 ≤ asked ∧ asked ≤ 14) ∨ asked = 20) ∧ changed.mapKept
  | .rating i => ¬ (asked = 0 ∧ c.slots[i].kind = .contactor) ∧ changed.mapKept
  | .phase _ => 0 ≤ asked ∧ asked ≤ 63
  | .coldStart => asked = 0 ∨ asked = 1
  | .enable _ => asked = 0 ∨ asked = 1
  | .polarity _ => asked = 0 ∨ asked = 1
  | .width _ => 0 ≤ asked ∧ asked ≤ 3
  | .regPeriod => asked = 1 ∨ asked = 2 ∨ asked = 4
  | .mWatch => changed.orderKept
  | .mOn => changed.orderKept
  | .mOff => changed.orderKept
  | .group _ => 0 ≤ asked ∧ asked ≤ 63
  | _ => True

/-- What R112 rests on, with the bound itself: an element map that keeps the constraints of R5, elements out
of service ordered off and closed elements that are contactors, the contactors of every zone within its zone
grant, a held draw of LOST nodes alone, absorbed amounts within what was accepted, and class grants within
the budget (R5, R101, R105, R109, R118, R120, R145). -/
def State.drawRight (s : State) : Prop :=
  s.drawWithin ∧ s.cfg.mapKept ∧ s.grantsRight ∧
    (∀ i, (s.elem i).state ≠ .inService →
      (s.elem i).closed = false ∧ (s.elem i).draw = 0 ∧ s.absorbed i = 0) ∧
    (∀ i, (s.elem i).closed = true → (s.slot i).kind = .contactor) ∧
    (∀ z, s.closedOrQueued z ≤ s.zoneGrant z) ∧
    (∀ n, (s.link n).heldDraw ≠ 0 → (s.link n).state = .lost ∧ (s.link n).heldTimer ≠ none) ∧
    (allSlots.map s.absorbed).sum ≤ s.openSurplus

end Sys2Proof.Machine
end

