-- ==== Sys2Proof/Certificates/Slice0/Obligations.lean ====
section
/-! DEFINITION. The statements for the provers. -/

open Sys2Proof Sys2Proof.Machine

/-! ### The step -/

/-- One step takes the command at the front of the queue and runs it on the state with the rest. -/
def Obligations.StepRunsFrontCommand : Prop :=
  ∀ (c : Instr) (s : State), step { s with pending := c :: s.pending } = exec c s

/-- With nothing waiting, one millisecond passes and the expiries then due wait: for every timer of the
block its expiry command waits exactly when the timer is due, and once; nothing else waits. In which order
they wait is a free value (notes/assumptions/1.md). A store's write ends 1 to 400 ms after its acceptance
(notes/assumptions/3.md). That an empty queue lets the millisecond pass is the model's choice
(notes/assumptions/6.md). -/
def Obligations.IdleStepBringsDueExpiries : Prop :=
  ∀ s : State, s.pending = [] →
    let u : State := { s with now := s.now + 1 }
    ∃ t, step s = .next t ∧ t.now = s.now + 1 ∧ t.freeCount = s.freeCount + 1 ∧
      (∀ c, c ∈ t.pending ↔ u.expiryDue c) ∧ t.pending.Perm u.dueCommands ∧
      ((∀ n, ((s.link n).window.map (·.number)).Nodup) → t.pending.Nodup) ∧
      s.cs.storeStart + 1 ≤ s.storeEnd ∧ s.storeEnd ≤ s.cs.storeStart + 400 ∧
      Keeps [.time, .queue, .free] s t

/-- Every command has an effect, and leaves the waiting commands and the time base alone. That a command
takes no time (notes/assumptions/6.md) and that DEVICE_RESET too leaves both (notes/assumptions/8.md) are
the model's choices. -/
def Obligations.EveryCommandHasAnEffect : Prop :=
  ∀ (c : Instr) (s : State), ∃ t, exec c s = .next t ∧ t.pending = s.pending ∧ t.now = s.now

/-! ### What every step keeps -/

/-- Every attention line stands at the level of R176, and no reply queue holds more than four replies. -/
def Obligations.PortsInvariant : Prop :=
  ∀ s t : State, s.portsRight = true → step s = .next t → t.portsRight = true

/-- The slot counter counts 0 to 63, both period-mark lines carry one level, and the closure queue holds at
most 12 contactors, none twice. The queue holds contactors in service that are ordered open, CAB before
SALOON and in ascending slot number within a class. -/
def Obligations.BeatInvariant : Prop :=
  ∀ s t : State, step s = .next t →
    (s.beatRight = true → t.beatRight = true) ∧
      (s.queueRight ∧ s.slotsRight → t.queueRight ∧ t.slotsRight)

/-- No two override entries share kind, target and source; and an AIR entry is SUSPENDED exactly while
screen-air is asserted and its group lies in the front section. -/
def Obligations.OverrideTableInvariant : Prop :=
  ∀ s t : State, s.tableRight ∧ s.airEntriesRight → step s = .next t →
    t.tableRight ∧ t.airEntriesRight

/-- Every integrator stays within ±(Imax × 256) and is 0 in a zone that is OFF or without a temperature;
every zone state is the one that its hold reasons rank. -/
def Obligations.IntegratorInvariant : Prop :=
  ∀ s t : State, s.integratorsRight → step s = .next t → t.integratorsRight

/-- While screen-air is asserted the front commanded fresh fraction stays at or above the demist floor. -/
def Obligations.AirFloorInvariant : Prop :=
  ∀ s t : State, s.floorRight → step s = .next t → t.floorRight

/-- Without the line every heater element is ordered off, nothing is queued for closure, nothing is granted
and no surplus is absorbed. -/
def Obligations.GapInvariant : Prop :=
  ∀ s t : State, s.gapRight ∧ s.surplusRight ∧ s.slotsRight → step s = .next t →
    t.gapRight ∧ t.surplusRight ∧ t.slotsRight

/-- The parts of every zone stay within its available rating and its ZONE-CAP, and at 0 under ZONE-OFF; and
every demand stays at the clamp of its posted value. The premises also hold the AIR states of
OverrideTableInvariant, under which no other entry is SUSPENDED. -/
def Obligations.DemandInvariant : Prop :=
  ∀ s t : State, s.slotsRight ∧ s.airEntriesRight → step s = .next t →
    (s.demandsRight → t.demandsRight ∧ t.slotsRight) ∧ (AllClamped s → AllClamped t)

/-- The class grants stay within the effective budget, and the members of a class share its grant whole. -/
def Obligations.GrantInvariant : Prop :=
  ∀ s t : State, s.grantsRight → step s = .next t → t.grantsRight

/-- The accounted draw never exceeds the effective budget plus the accepted surplus of an open window, but
by the held draw of a LOST node within its release interval. With it go an element map within its
constraints, elements out of service that are ordered off, the closed and queued contactors of every zone
within its zone grant, and absorbed amounts within what was accepted; the premises also hold the queue of
BeatInvariant. -/
def Obligations.DrawInvariant : Prop :=
  ∀ s t : State, s.drawRight ∧ s.queueRight ∧ s.slotsRight → step s = .next t → t.drawRight

/-- An order that may be sent is not held back, and every outstanding order names a slot at most once. R139
names two moments at which a pending order goes out; that it goes at the end of the first event after which
it may (notes/assumptions/15.md), and that a change of ordered state is found there
(notes/assumptions/14.md), is the model's reading. -/
def Obligations.OrdersInvariant : Prop :=
  ∀ s t : State, step s = .next t →
    (s.linksSettled → t.linksSettled) ∧
      ((∀ n, (s.link n).slotsDistinct) → ∀ n, (t.link n).slotsDistinct)

/-- Every door in OPEN or HELD keeps its open-start time, and no dwell passes its cap of 600000 ms. -/
def Obligations.DoorsInvariant : Prop :=
  ∀ s t : State, s.doorsRight → step s = .next t → t.doorsRight

/-- A notice stands in a port's status set until that port reads it or the device is reset. A character can
complete a READ-NOTICES and is left out here. -/
def Obligations.NoticesHeldUntilRead : Prop :=
  ∀ (c : Instr) (s t : State) (p : Port) (n : Notice), c.wellFormed = true →
    c ≠ .deviceReset → (∀ q ch stop, c ≠ .masterCharacterReceived q ch stop) →
    (∀ tag body, c ≠ .readNotices p tag body) →
    exec c s = .next t → s.holdsNotice p n = true → t.holdsNotice p n = true

/-- The state after reset meets every invariant. -/
def Obligations.ResetMeetsTheInvariants : Prop :=
  State.reset.portsRight = true ∧ State.reset.beatRight = true ∧ State.reset.tableRight ∧
    State.reset.airEntriesRight ∧ State.reset.integratorsRight ∧ State.reset.floorRight ∧
    State.reset.gapRight ∧ State.reset.surplusRight ∧ State.reset.slotsRight ∧
    State.reset.demandsRight ∧ State.reset.grantsRight ∧ State.reset.linksSettled ∧
    State.reset.doorsRight ∧ State.reset.queueRight ∧ State.reset.drawRight ∧
    AllClamped State.reset ∧ ∀ n, (State.reset.link n).slotsDistinct

/-! ### Requests at the master ports (chapter 9) -/

/-- The first four checks of R171 in their order: a full reply queue discards the request and counts it; a
kind outside the table, a port that the table does not allow and a body of another length are refused.
Nothing but the port changes. That the reply to an unknown kind of 80h or above has the kind plus 80h modulo
256 is the model's choice (notes/assumptions/46.md). -/
def Obligations.RequestChecksTakenInOrder : Prop :=
  ∀ (c : Instr) (p : Port) (kind tag : Byte) (body : List Byte) (s : State),
    requestOf c = some (p, kind, tag, body) → s.linksSettled →
    (4 ≤ (s.port p).replies.length →
      ∃ t, exec c s = .next t ∧ Heard p s t ∧ OtherPortsKept p s t ∧ MaskKept p s t ∧
        (t.port p).overruns = min 65535 ((s.port p).overruns + 1) ∧
        (t.port p).replies = (s.port p).replies ∧ Keeps [.ports] s t) ∧
    (s.hasRoom p → (∀ ports len, (kind.toNat, ports, len) ∉ requestTable) →
      ∃ t, exec c s = .next t ∧ Answered p kind tag [0x04] s t ∧ MaskKept p s t ∧
        Keeps [.ports] s t) ∧
    ∀ ports len, (kind.toNat, ports, len) ∈ requestTable → s.hasRoom p →
      (p ∉ ports →
        ∃ t, exec c s = .next t ∧ Answered p kind tag [0x03] s t ∧ MaskKept p s t ∧
          Keeps [.ports] s t) ∧
      (p ∈ ports → body.length ≠ len →
        ∃ t, exec c s = .next t ∧ Answered p kind tag [0x05] s t ∧ MaskKept p s t ∧
          Keeps [.ports] s t)

/-- READ-OBJECT ZONE returns the 38-byte record of R194 and changes nothing but its port. That its Tz and
quality are those of the Sample Table at the arrival is the model's reading (notes/assumptions/33.md). -/
def Obligations.ReadObjectReturnsZoneRecord : Prop :=
  ∀ (p : Port) (tag part : Byte) (z : ZoneNo) (s : State), s.hasRoom p → s.linksSettled →
    let v := s.value (.air z)
    let r := s.zone z
    let sample (i : Nat) := w16 ((v.window[i]?).getD 0x8000)
    let zone : Byte := BitVec.ofNat 8 z.val
    ∃ t, exec (.readObject p tag [0x00, zone, part]) s = .next t ∧
      Answered p 0x01 tag
        ([0x00, 0x00, zone, part] ++
          w16 (v.value.getD 0x8000) ++ w8 v.quality.code ++ w8 v.window.length ++
          sample 0 ++ sample 1 ++ sample 2 ++ sample 3 ++
          w16 (match v.lastValid with
            | some m => (min 65535 ((s.now - m) / 100) : Nat)
            | none => 0xFFFF) ++
          w8 v.rejection.code ++ w16 r.ts ++ w16 (r.err.getD 0x8000) ++ w16 r.prop ++
          w16 r.integ ++ w16 r.iTerm ++ w16 r.feed ++ w8 r.hb ++ w8 r.quantHb ++
          wFlag r.upperStop ++ wFlag r.lowerStop ++ w8 r.reasons.mask ++ w8 r.state.code ++
          w16 r.lastBaseGrant ++ w8 r.lastPosted ++ wFlag r.shortfall ++ w8 r.blower) s t ∧
      MaskKept p s t ∧ Keeps [.ports] s t

/-- READ-OBJECT returns the records of R194 byte by byte: SECTION-AIR, DOOR, SCREEN, the two parts of POWER,
ELEMENT, OVERRIDES, GROUP, NODE, COUNTERS, the store record and the items of CONFIG, and PORTS, which shows
the asking port LINKED by this frame and the reply being formed; the ZONE record stands in
ReadObjectReturnsZoneRecord. The place and value of the tenth byte of SECTION-AIR (notes/assumptions/5.md),
the codes that R191 leaves to the reader, among them 1 for in use and for asserted
(notes/assumptions/27.md), the bytes and indexes that R194 leaves open, among them the 0 of a contactor's
duty and granted portion (notes/assumptions/28.md), the value of the copy in a CONFIG readout
(notes/assumptions/23.md) and the bounds of its items of codes or sets (notes/assumptions/47.md) are the
model's. -/
def Obligations.ReadObjectReturnsItsRecord : Prop :=
  ∀ (p : Port) (tag index part : Byte) (s : State), s.hasRoom p → s.linksSettled →
    let returns (object index part : Byte) (record : List Byte) (touched : List Part) : Prop :=
      ∃ t, exec (.readObject p tag [object, index, part]) s = .next t ∧
        Answered p 0x01 tag ([0x00, object, index, part] ++ record) s t ∧ MaskKept p s t ∧
        Keeps touched s t
    let number (n : Nat) : Byte := BitVec.ofNat 8 n
    let byte? (x : Option Nat) : List Byte := w8 (x.getD 0xFF)
    let signed (x : Option Int) : List Byte := w16 (x.getD 0x8000)
    let span (unit : Nat) (x : Option Nat) : List Byte :=
      w16 (match x with
        | some ms => (min 65535 (ms / unit) : Nat)
        | none => 0xFFFF)
    let age (unit : Nat) (since : Option Nat) : List Byte := span unit (since.map (s.now - ·))
    let left (unit : Nat) (timer : Timer) : List Byte := span unit (timer.map (· - s.now))
    let sampled (v : ValueId) (value : List Byte) : List Byte :=
      value ++ w8 (s.value v).quality.code ++ age 100 (s.value v).lastValid ++
        w8 (s.value v).rejection.code
    let temperature (v : ValueId) : List Byte := sampled v (signed (s.value v).value)
    let humidity : List Byte := sampled .humidity (byte? ((s.value .humidity).value.map Int.toNat))
    let air (n : Node) : List Byte :=
      let a := s.air n
      w16 s.st.outsideTemp ++ w8 s.st.outsideSource.code ++ w8 a.normalFresh ++
        byte? a.resolvedAir ++ w8 a.source.code ++ w8 a.commanded ++
        (match n with
         | .front => w8 s.sc.flap.code ++ wFlag s.sc.airRequest
         | .rear => [0xFF, 0xFF])
    let input (i : InputNo) : List Byte :=
      let c := s.cfg.inputs[i]
      let r := s.input i
      wFlag c.enable ++ w8 (if c.activeHigh then 0 else 1) ++ w8 c.width ++ w8 r.raw.code ++
        w8 r.filtered.code ++ age 1 (some r.stableSince)
    let door (d : DoorNo) : List Byte :=
      let r := s.door d
      let dwell :=
        match r.openStart with
        | some m => min 600000 (s.now - m)
        | none => r.dwell
      w8 r.state.code ++ wFlag r.inUse ++ span 100 (some dwell) ++ w8 r.level ++
        w8 s.cfg.bd[d] ++ byte? r.vclose ++ span 100 r.decayTime ++ span 100 r.decayRemaining ++
        left 100 r.heldTimer ++ left 100 r.trailingTimer ++ w8 r.ring.length ++
        ((List.range 8).flatMap fun k => w16 (r.ring.getD k 0xFFFF : Nat)) ++
        w16 (if r.ring = [] then 0xFFFF else (r.ring.sum / r.ring.length : Nat)) ++
        w8 r.curtainHeat ++ w8 r.curtainBlower.code ++ wFlag (s.curtainOff d) ++
        ((List.finRange 6).flatMap fun z => w8 (s.cfg.weights[d])[z]) ++
        ((List.finRange 6).flatMap fun z => w8 r.contribution[z]) ++
        input (drInput d) ++ input relInput
    let screen : List Byte :=
      let r := s.sc
      temperature .glass ++ humidity ++ w16 r.tcab ++ w8 r.tcabSource.code ++ signed r.dew ++
        signed r.margin ++ w8 r.state.code ++ byte? (r.acting.map ActingMode.code) ++
        w8 r.flap.code ++ wFlag r.airRequest ++ wFlag r.filmLatch ++ w8 r.filmPosted ++
        w8 r.partPosted ++ left 100 r.exitHold ++ w8 r.origin.code ++ w16 r.duration ++
        left 1000 r.defrostTimer ++ left 100 r.glassHold ++ w8 r.lastEnd.code ++
        w8 r.coldDecision.code
    let account : List Byte :=
      let l := s.input lineInput
      w16 s.pa.envelope ++ w8 s.pa.envState.code ++ left 1 s.pa.envTimer ++ w8 s.pa.line.code ++
        age 100 s.pa.gapStart ++ w16 s.pa.preGapDraw ++ w16 s.budget ++ w16 s.pa.ceiling ++
        wFlag s.pa.ceilingActive ++
        ([HeatClass.screen, .cab, .door, .saloon].flatMap fun k =>
          let c := s.class k
          w16 c.demand ++ w16 c.held ++ w16 c.reserve ++ w16 c.grant ++
            w16 s.cfg.quota[k.index] ++ wFlag c.short) ++
        w8 (if s.pa.surplus.isOpen then 0 else 1) ++ w16 s.pa.surplus.offered ++
        w16 s.pa.surplus.accepted ++ left 1 s.pa.surplus.endTime ++
        ((List.finRange 24).flatMap fun i => w8 (s.absorbed i)) ++ w16 s.accountedDraw ++
        w8 l.raw.code ++ w8 l.filtered.code ++ age 1 (some l.stableSince)
    let members : List Byte :=
      ((List.finRange 6).flatMap fun z => w16 (s.zoneGrant z)) ++
        (List.finRange 18).flatMap fun m =>
          let r := s.member m
          w8 r.posted ++ w8 r.demand ++ w8 r.held ++ w8 r.grant
    let element (i : SlotNo) : List Byte :=
      let c := s.slot i
      let e := s.elem i
      let contactor := c.kind == .contactor
      w8 c.node.code ++ w8 c.output ++
        w8 (match c.owner with
          | .zone z => z.val
          | .curtain d => 11 + d.val
          | .screen => 20) ++
        w8 c.kind.code ++ w8 c.rating ++ w8 c.phase ++ w8 e.state.code ++
        byte? (e.lockout.map LockoutReason.code) ++ w8 e.autoReleases ++
        left 1000 e.lockoutTimer ++
        w16 (if contactor then (if e.closed then 1 else 0) else (e.duty : Int)) ++
        byte? (if s.es.queue.contains i then some (s.es.queue.idxOf i) else none) ++
        w8 e.granted ++ w8 e.duty ++
        w8 (if contactor then (if e.closed || s.es.queue.contains i then c.rating else 0)
          else e.draw) ++
        w8 (s.absorbed i) ++ w16 ((e.applied.getD 0xFFFF : Nat)) ++ wFlag e.overheat ++
        w8 e.mismatch ++ age 100 e.closedSince ++ age 100 e.openedSince
    let entries : List (EntryNo × Entry) :=
      (List.finRange 16).filterMap fun e => (s.entry e).map fun y => (e, y)
    let resolves (x : EntryNo × Entry) : Bool :=
      !x.2.suspended && (scopesOf x.2.kind).any fun scope =>
        x.2.target.covers s.cfg scope && entries.all fun y =>
          y.1 == x.1 || y.2.kind != x.2.kind || y.2.suspended ||
            !y.2.target.covers s.cfg scope ||
            (x.2.source == .desk && y.2.source == .service) ||
            (x.2.source == y.2.source &&
              (decide (y.2.seq < x.2.seq) || (y.2.seq == x.2.seq && decide (x.1 < y.1))))
    let entry (x : EntryNo × Entry) : List Byte :=
      w8 x.1.val ++ w8 x.2.kind.code ++
        w8 (match x.2.target with
          | .zone z => z.val
          | .group g => 16 + g.val
          | .door d => 32 + (d.val + 1)
          | .screen => 48) ++
        signed x.2.value ++ left 1000 x.2.expiry ++ w16 x.2.seq ++
        w8 ((if x.2.source = .service then 1 else 0) + (if x.2.suspended then 2 else 0) +
          (if resolves x then 4 else 0))
    let node (n : Node) : List Byte :=
      let k := s.link n
      let absent : List Byte := [0x80, 0x00, 0xFF, 0xFF, 0xFF, 0xFF]
      (match n with
       | .front =>
         temperature (.air 0) ++ temperature (.air 1) ++ temperature (.air 2) ++
           temperature (.outside .front) ++ temperature .glass ++ humidity
       | .rear =>
         temperature (.air 3) ++ temperature (.air 4) ++ temperature (.air 5) ++
           temperature (.outside .rear) ++ absent ++ [0xFF, 0xFF, 0xFF, 0xFF, 0xFF]) ++
        w8 k.state.code ++ w8 k.validRun ++ age 1 k.lastValid ++ w8 k.window.length ++
        ((List.range 4).flatMap fun j =>
          match k.window[j]? with
          | some e => w8 e.number.val ++ age 1 (some e.sentAt)
          | none => [0xFF, 0xFF, 0xFF]) ++
        w8 k.nextNumber.val ++ wFlag k.pendingMarker ++ w8 k.echoMiss ++ w16 k.lateEchoes ++
        w16 k.frameErrors ++ w8 k.latch.mask ++ w8 k.restarts ++ age 100 k.lastRestart ++
        age 100 k.lostTime ++ w16 k.heldDraw ++ left 1 k.heldTimer
    let counters : List Byte :=
      (List.finRange 8).flatMap fun i =>
        let k := s.ac[i]
        w32 k.value ++ wFlag k.overflow ++ w8 (if k.frozen then 0 else 1) ++
          w8 (if k.counted then 0 else 1) ++ w8 k.setup.event.code ++ [k.setup.mask] ++
          w8 k.setup.threshold ++ w8 k.setup.mode.code ++
          w8 ((if k.setup.freezeOnOverflow then 1 else 0) + (if k.setup.enable then 2 else 0))
    let copy := s.cs.load == .loaded
    let port (q : Port) : List Byte :=
      let c := s.port q
      let heard := q == p
      w8 (if heard then 0 else c.link.code) ++ age 1 (if heard then some s.now else c.lastGood) ++
        w16 c.frameErrors ++ w16 c.overruns ++ w8 (c.replies.length + if heard then 1 else 0) ++ w24 c.notices.toNat ++
        w24 c.mask.toNat ++ wFlag c.globalEnable ++ wFlag c.attention
    (∀ n : Node, ∃ last, returns 0x01 (number n.code) part (air n ++ [last]) [.free, .ports]) ∧
    (∀ d : DoorNo, returns 0x02 (number (d.val + 1)) part (door d) [.ports]) ∧
    returns 0x03 index part screen [.ports] ∧
    returns 0x04 index 0x00 account [.ports] ∧ returns 0x04 index 0x01 members [.ports] ∧
    (∀ i : SlotNo, returns 0x05 (number i.val) part (element i) [.ports]) ∧
    (∀ start : EntryNo, returns 0x06 (number start.val) part
      (w8 entries.length ++ w16 s.ot.running ++
        ((entries.filter fun x => decide (start ≤ x.1)).take 12).flatMap entry) [.ports]) ∧
    (∀ g : Fin 8, returns 0x07 (number g.val) part
      (w8 (s.cfg.groupMask g).toNat ++ wFlag (decide (g.val < 4)) ++
        w8 (s.cfg.groupSection g).code ++
        w8 (entries.filter fun x => x.2.target == .group g).length) [.ports]) ∧
    (∀ n : Node, returns 0x08 (number n.code) part (node n) [.links, .ports]) ∧
    returns 0x09 index part counters [.ports] ∧
    returns 0x0A 0x00 part
      (w8 s.cs.storeState.code ++ w8 s.cs.lastStore.code ++ w8 s.cs.load.code) [.ports] ∧
    (∀ it, Item.ofCodes? index.toNat part.toNat = some it →
      returns 0x0A index part
        (w32 (s.cfg.get it) ++ wFlag copy ++
          w32 (if copy then s.cs.nonVolatile.get it else 0) ++ w32 it.range.1 ++
          w32 it.range.2 ++ w32 (factory.get it)) [.ports]) ∧
    returns 0x0B index part (port .desk ++ port .power ++ port .service) [.ports]

/-- READ-OBJECT of any object is answered and changes no record of a block but the link-error latch of a
NODE that it reads, which it clears. An object code above 11 is REFUSED-UNKNOWN; an index outside its range,
a POWER part above 1 and a CONFIG number or index without an item are REFUSED-MALFORMED, a NODE index too,
which then clears nothing. That SCREEN, POWER, COUNTERS, PORTS and the items of CONFIG that have no index
ignore the one they are given, and are answered DONE, is the model's reading (notes/assumptions/28.md). -/
def Obligations.ReadObjectClearsOnlyTheLatch : Prop :=
  ∀ (p : Port) (tag object index part : Byte) (s : State), s.hasRoom p → s.linksSettled →
    let outside : Prop :=
      (object = 0x00 ∧ 6 ≤ index.toNat) ∨ (object = 0x01 ∧ 2 ≤ index.toNat) ∨
        (object = 0x02 ∧ (index.toNat = 0 ∨ 5 ≤ index.toNat)) ∨ (object = 0x04 ∧ 2 ≤ part.toNat) ∨
        (object = 0x05 ∧ 24 ≤ index.toNat) ∨ (object = 0x06 ∧ 16 ≤ index.toNat) ∨
        (object = 0x07 ∧ 8 ≤ index.toNat) ∨ (object = 0x08 ∧ 2 ≤ index.toNat) ∨
        (object = 0x0A ∧ index ≠ 0 ∧ Item.ofCodes? index.toNat part.toNat = none)
    (∃ t reply, exec (.readObject p tag [object, index, part]) s = .next t ∧
      Answered p 0x01 tag reply s t ∧ MaskKept p s t ∧
      (11 < object.toNat → reply = [0x04]) ∧ (outside → reply = [0x05]) ∧
      (object.toNat ≤ 11 → ¬ outside → reply.take 4 = [0x00, object, index, part]) ∧
      (object ≠ 0x08 → Keeps [.free, .ports] s t) ∧
      ((object ≠ 0x01 ∧ object ≠ 0x08) ∨ outside → Keeps [.ports] s t) ∧
      Keeps [.links, .free, .ports] s t) ∧
    ∀ n : Node, object = 0x08 → index.toNat = n.code →
      ∃ t record, exec (.readObject p tag [object, index, part]) s = .next t ∧
        Answered p 0x01 tag ([0x00, 0x08, index, part] ++ record) s t ∧ MaskKept p s t ∧
        record.length = 69 ∧ record[59]? = some (BitVec.ofNat 8 (s.link n).latch.mask) ∧
        t.link n = { s.link n with latch := LinkErrors.empty } ∧
        (∀ m, m ≠ n → t.link m = s.link m) ∧ Keeps [.links, .ports] s t

/-- READ-NOTICES returns its port's status set, clears it and deasserts the line; the other ports keep
theirs. -/
def Obligations.ReadNoticesReturnsAndClears : Prop :=
  ∀ (p : Port) (tag : Byte) (s : State), s.hasRoom p → s.linksSettled →
    ∃ t, exec (.readNotices p tag []) s = .next t ∧
      Answered p 0x02 tag (0x00 :: w24 (s.port p).notices.toNat) s t ∧ MaskKept p s t ∧
      (t.port p).notices = 0 ∧ (t.port p).attention = false ∧
      (∀ q, q ≠ p → t.port q = s.port q) ∧ Keeps [.ports, .notices] s t

/-- SET-NOTICE-MASK replaces the mask and the global enable of its port and recomputes its line; a mask above
condition 19 or an enable byte other than 0 or 1 is refused. Device reset returns the masks of the table and
an enable that is on. That the reply shows an asserted line as 1 (notes/assumptions/27.md) is the model's. -/
def Obligations.SetNoticeMaskReplacesMask : Prop :=
  ∀ (p : Port) (tag hi mid lo enable : Byte) (s : State), s.hasRoom p → s.linksSettled →
    (if hi.toNat < 16 ∧ enable.toNat < 2 then
      ∃ t, exec (.setNoticeMask p tag [hi, mid, lo, enable]) s = .next t ∧
        (t.port p).mask.toNat = hi.toNat * 65536 + mid.toNat * 256 + lo.toNat ∧
        (t.port p).globalEnable = (enable == 1) ∧
        (t.port p).notices = (s.port p).notices ∧
        (t.port p).attention =
          (enable == 1 && ((s.port p).notices &&& (t.port p).mask) != 0) ∧
        Answered p 0x03 tag
          [0x00, hi, mid, lo, enable, if (t.port p).attention then 0x01 else 0x00] s t ∧
        (∀ q, q ≠ p → t.port q = s.port q) ∧ Keeps [.ports, .notices] s t
    else
      ∃ t, exec (.setNoticeMask p tag [hi, mid, lo, enable]) s = .next t ∧
        Answered p 0x03 tag [0x05] s t ∧ MaskKept p s t ∧ Keeps [.ports] s t) ∧
    ∃ t, exec .deviceReset s = .next t ∧ t.mpu.desk.mask = 0x0C781#20 ∧
      t.mpu.power.mask = 0x0247E#20 ∧ t.mpu.service.mask = 0xFFFFF#20 ∧
      ∀ q, (t.port q).globalEnable = true

/-! ### The Override Table (chapter 8) -/

/-- What PLACE-OVERRIDE takes from a body of known codes: kind, target and source; the value clamped into
the range of the kind and source; the minutes, the default for 0 and none or the default for FFFFh. That the
number of a screen target is not looked at is the model's choice (notes/assumptions/28.md). The checks of
R153 that refuse PLACE-OVERRIDE, in their order, and leave everything but the port. That an absent value is
refused before the target is looked at (notes/assumptions/42.md), and that the number of a screen target is
not looked at (notes/assumptions/28.md), is the model's choice. -/
def Obligations.PlacementTakesItsFields : Prop :=
  (∀ (s : State) (p : Port) (k tt tn vh vl mh ml : Byte) (kind : OverrideKind) (target : Target),
     p ≠ .power → OverrideKind.ofCode? k.toNat = some kind →
     Target.ofCodes? tt.toNat tn.toNat = some target → acceptsTarget s.cfg kind target = true →
     (kind = .defrost → p = .desk) →
     (kind = .setpointShift ∨ kind = .zoneCap ∨ kind = .air → (vh ++ vl).toInt ≠ -32768) →
     let v := (vh ++ vl).toInt
     let minutes := (mh ++ ml).toNat
     let source : Source := if p = .desk then .desk else .service
     ∃ x, s.checkPlacement p [k, tt, tn, vh, vl, mh, ml] = .inl x ∧
       x.kind = kind ∧ x.target = target ∧ x.source = source ∧
       (x.value = match kind with
         | .setpointShift =>
           if p = .desk then some (max (-50) (min v 50)) else some (max (-100) (min v 100))
         | .zoneOff => none
         | .zoneCap => some (max 0 (min v 120))
         | .air => some (max 0 (min v 100))
         | .defrost => if v = -32768 then none else some (max 60 (min v 1200))
         | .curtainOff => none) ∧
       (x.minutes =
         if minutes = 0 then some s.cfg.driverExpiry
         else if minutes = 65535 then
           (if p = .desk then some s.cfg.driverExpiry else none)
         else some (min minutes 240)) ∧
       (x.clamped = true ↔
         (x.value ≠ none ∧ x.value ≠ some v) ∨ (minutes = 65535 ∧ p = .desk) ∨
           (minutes ≠ 65535 ∧ 240 < minutes))) ∧
  ∀ (p : Port) (tag k tt tn vh vl mh ml : Byte) (s : State),
    s.hasRoom p → p ≠ .power → s.linksSettled →
    let refused (status : Byte) : Prop :=
      ∃ t, exec (.placeOverride p tag [k, tt, tn, vh, vl, mh, ml]) s = .next t ∧
        Answered p 0x04 tag [status] s t ∧ MaskKept p s t ∧ Keeps [.ports] s t
    let defrostFromService := k = 4 ∧ p = .service
    let unknownCode := 5 < k.toNat ∨ 3 < tt.toNat ∨ (tt = 0 ∧ 6 ≤ tn.toNat) ∨
      (tt = 1 ∧ 8 ≤ tn.toNat) ∨ (tt = 2 ∧ (tn = 0 ∨ 5 ≤ tn.toNat))
    let valueAbsent := (k = 0 ∨ k = 2 ∨ k = 3) ∧ vh = 0x80 ∧ vl = 0x00
    let wrongTarget := (k.toNat ≤ 2 ∧ 2 ≤ tt.toNat) ∨ (k = 3 ∧ tt ≠ 1) ∨ (k = 4 ∧ tt ≠ 3) ∨
      (k = 5 ∧ tt ≠ 2)
    let wrongGroup := k.toNat ≤ 3 ∧ tt = 1 ∧ ∃ g : Fin 8, tn.toNat = g.val ∧
      (s.cfg.groupMask g = 0 ∨ (k = 3 ∧ s.cfg.groupSection g = .both))
    (defrostFromService → refused 0x03) ∧
    (¬ defrostFromService → unknownCode ∨ valueAbsent → refused 0x05) ∧
    (¬ defrostFromService → ¬ unknownCode → ¬ valueAbsent → wrongTarget ∨ wrongGroup →
      refused 0x07)

/-- PLACE-OVERRIDE puts its entry into the slot of the entry with the same kind, target and source, else
into the lowest empty slot, else from the DESK in place of the SERVICE entry with the lowest sequence, and
otherwise refuses. No other entry changes, and OVERRIDE-PLACED is signalled once with the source. Once the
running number 65535 has been taken the held entries are renumbered from 0 in the order of their sequences,
the placed one last. -/
def Obligations.PlaceOverrideTakesASlot : Prop :=
  (∀ (p : Port) (tag : Byte) (body : List Byte) (s : State) (x : Placement),
     s.hasRoom p → p ≠ .power → body.length = 7 → s.checkPlacement p body = .inl x →
     s.ot.running < 65535 →
     let twin (y : Entry) : Prop := y.kind = x.kind ∧ y.target = x.target ∧ y.source = x.source
     let placedAt (e : EntryNo) (evicted : Option Entry) : Prop :=
       ∃ t y, exec (.placeOverride p tag body) s = .next t ∧
         t.entry e = some y ∧
         y.plain = { kind := x.kind, target := x.target, value := x.value, source := x.source,
                     expiry := x.minutes.map fun m => s.now + m * 60000, seq := s.ot.running,
                     suspended := false } ∧
         EntriesKept [e] s t ∧ t.ot.running = s.ot.running + 1 ∧
         Signalled .overridePlaced [(some (if x.source = .desk then 0 else 1), 1)] s t ∧
         (evicted.isSome = true → Raised .overrideEvicted t) ∧
         Answered p 0x04 tag
           ((if x.clamped then 0x01 else 0x00) :: BitVec.ofNat 8 e.val ::
             (w16 s.ot.running ++
               w16 (match x.minutes with
                 | some m => m * 60
                 | none => 65535) ++
               [if s.sc.airRequest && x.kind == .air && x.target.covers s.cfg (.air .front)
                 then 0x01 else 0x00] ++
               (match evicted with
                | some y => [BitVec.ofNat 8 e.val, BitVec.ofNat 8 y.kind.code]
                | none => [0xFF, 0xFF]))) s t ∧
         MaskKept p s t ∧
         Keeps [.zones, .screen, .doors, .overrides, .power, .elements, .links, .counters,
           .notices, .ports] s t
     (∀ e y, s.tableRight → s.entry e = some y → twin y → placedAt e none) ∧
     ((∀ e y, s.entry e = some y → ¬ twin y) →
       (∀ e, s.entry e = none → (∀ f, f < e → s.entry f ≠ none) → placedAt e none) ∧
       ((∀ e, s.entry e ≠ none) → x.source = .desk →
         ∀ e y, s.entry e = some y → y.source = .service →
           (∀ f z, f ≠ e → s.entry f = some z → z.source = .service → y.seq < z.seq) →
           placedAt e (some y)) ∧
       ((∀ e, s.entry e ≠ none) →
         (x.source = .service ∨ ∀ e y, s.entry e = some y → y.source = .desk) → s.linksSettled →
         ∃ t, exec (.placeOverride p tag body) s = .next t ∧ Answered p 0x04 tag [0x06] s t ∧
           MaskKept p s t ∧ Keeps [.ports] s t))) ∧
  ∀ (p : Port) (tag : Byte) (body : List Byte) (s : State) (x : Placement) (e : EntryNo),
    s.hasRoom p → p ≠ .power → body.length = 7 → s.checkPlacement p body = .inl x →
    s.ot.running = 65535 → s.entry e = none → (∀ f, f < e → s.entry f ≠ none) →
    (∀ f y, s.entry f = some y →
      y.seq < 65535 ∧ ¬ (y.kind = x.kind ∧ y.target = x.target ∧ y.source = x.source)) →
    ∃ t reply, exec (.placeOverride p tag body) s = .next t ∧ Answered p 0x04 tag reply s t ∧
      t.ot.running = s.entries.length + 1 ∧
      Signalled .overridePlaced [(some (if x.source = .desk then 0 else 1), 1)] s t ∧
      (∃ y, t.entry e = some y ∧ y.kind = x.kind ∧ y.target = x.target ∧ y.value = x.value ∧
        y.source = x.source ∧ y.seq = s.entries.length) ∧
      (∀ f, f ≠ e → (t.entry f).map (fun y => { y.plain with seq := 0 }) =
        (s.entry f).map fun y => { y.plain with seq := 0 }) ∧
      ∀ f y z, f ≠ e → s.entry f = some y → t.entry f = some z →
        z.seq = (s.entries.filter fun w => decide (w.2.seq < y.seq)).length

/-- CANCEL-OVERRIDE empties a slot of its own port's source and ends the defrost cycle that the slot owned;
a slot of the other source, an empty slot and a number above 15 are refused. SHIFT-CHANGE removes every DESK
entry, keeps every SERVICE entry and replies how many it removed. An entry at its expiry time is removed and
OVERRIDE-EXPIRED is raised; before that time, and for an entry that does not expire, nothing happens. -/
def Obligations.RequestsEmptySlots : Prop :=
  (∀ (p : Port) (tag : Byte) (s : State), s.hasRoom p → p ≠ .power →
     let source : Source := if p = .desk then .desk else .service
     (∀ (e : EntryNo) (y : Entry), s.entry e = some y →
       let body : List Byte := [BitVec.ofNat 8 e.val]
       (y.source = source →
         ∃ t, exec (.cancelOverride p tag body) s = .next t ∧
           Answered p 0x05 tag [0x00] s t ∧ MaskKept p s t ∧ t.entry e = none ∧
           EntriesKept [e] s t ∧ t.ot.running = s.ot.running ∧
           (y.kind = .defrost → s.sc.state = .defrost → s.sc.origin = .placed →
             (∀ f z, f ≠ e → s.entry f = some z → z.kind ≠ .defrost) →
             t.sc.state ≠ .defrost ∧ t.sc.origin = .none ∧ t.sc.lastEnd = .cancelled ∧
               t.sc.defrostTimer = none ∧ t.sc.glassHold = none ∧ Raised .defrostDone t) ∧
           Keeps [.zones, .screen, .doors, .overrides, .power, .elements, .links, .counters,
             .notices, .ports] s t) ∧
       (y.source ≠ source → s.linksSettled →
         ∃ t, exec (.cancelOverride p tag body) s = .next t ∧
           Answered p 0x05 tag [0x03] s t ∧ MaskKept p s t ∧ Keeps [.ports] s t)) ∧
     (∀ e : EntryNo, s.entry e = none → s.linksSettled →
       ∃ t, exec (.cancelOverride p tag [BitVec.ofNat 8 e.val]) s = .next t ∧
         Answered p 0x05 tag [0x07] s t ∧ MaskKept p s t ∧ Keeps [.ports] s t) ∧
     ∀ b : Byte, 16 ≤ b.toNat → s.linksSettled →
       ∃ t, exec (.cancelOverride p tag [b]) s = .next t ∧
         Answered p 0x05 tag [0x05] s t ∧ MaskKept p s t ∧ Keeps [.ports] s t) ∧
  (∀ (tag : Byte) (s : State), s.hasRoom .desk →
    ∃ t, exec (.shiftChange .desk tag []) s = .next t ∧
      Answered .desk 0x06 tag
        [0x00, BitVec.ofNat 8 (s.entries.filter fun x => x.2.source == .desk).length] s t ∧
      MaskKept .desk s t ∧
      (∀ e y, s.entry e = some y → y.source = .desk → t.entry e = none) ∧
      (∀ e y, s.entry e = some y → y.source = .service →
        (t.entry e).map Entry.plain = some y.plain) ∧
      (∀ e, s.entry e = none → t.entry e = none) ∧
      t.ot.running = s.ot.running ∧
      Keeps [.zones, .screen, .doors, .overrides, .power, .elements, .links, .counters,
        .notices, .ports] s t) ∧
  ∀ (e : EntryNo) (s : State),
    (∀ y m, s.entry e = some y → y.expiry = some m → m ≤ s.now →
      ∃ t, exec (.overrideExpiry e) s = .next t ∧ t.entry e = none ∧ EntriesKept [e] s t ∧
        t.ot.running = s.ot.running ∧ Raised .overrideExpired t ∧
        Keeps [.zones, .screen, .doors, .overrides, .power, .elements, .links, .counters,
          .notices] s t) ∧
    ((∀ y m, s.entry e = some y → y.expiry = some m → s.now < m) → s.linksSettled →
      ∃ t, exec (.overrideExpiry e) s = .next t ∧ Keeps [] s t)

/-- A change of the table or of a group hands its changes of resolution on: a placed DEFROST enters or
restarts the cycle, and one that has left ends it; a zone that ZONE-OFF comes to cover is cleared with a
base part of 0; the demands of a zone whose ZONE-OFF or ZONE-CAP changed are clamped anew; and the curtains
of CURTAIN-OFF are recomputed and posted. While screen-air is asserted a membership change sets the states
of the AIR entries that name the group. That the value a group holds already is no change
(notes/assumptions/23.md), FAILSAFE for a cycle that ends without a margin (notes/assumptions/20.md), the
base level of the blower of a zone that leaves OFF (notes/assumptions/50.md), and one posting for each zone
entering OFF (notes/assumptions/45.md), is the model's reading. -/
def Obligations.OverrideChangesHandedOn : Prop :=
  (∀ (p : Port) (tag : Byte) (body : List Byte) (s : State) (x : Placement),
    s.hasRoom p → p ≠ .power → body.length = 7 → s.checkPlacement p body = .inl x →
    (∃ e, ∀ y, s.entry e = some y →
      (y.kind = x.kind ∧ y.target = x.target ∧ y.source = x.source) ∨
        (x.source = .desk ∧ y.source = .service)) →
    let seconds :=
      match x.value with
      | some v => v.toNat
      | none => s.cfg.defrostDuration
    let cycle : ScreenRec := { s.sc with
      origin := .placed, duration := seconds, defrostTimer := some (s.now + seconds * 1000)
      glassHold := none, exitHold := none }
    ∃ t, exec (.placeOverride p tag body) s = .next t ∧ HandedOn s t ∧
      (x.kind ≠ .defrost → CycleFollows s t) ∧
      (x.kind = .defrost →
        if s.sc.state = .defrost ∧ s.sc.acting = none then t.sc = cycle ∧ ScreenNotPosted s t
        else t.sc = cycle.taking s.cfg .defrost none ∧ ScreenPosted t ∧ ScreenHanded t)) ∧
  (∀ (p : Port) (tag : Byte) (s : State) (e : EntryNo) (y : Entry), s.hasRoom p → p ≠ .power →
    s.entry e = some y → y.source = (if p = .desk then .desk else .service) →
    ∃ t, exec (.cancelOverride p tag [BitVec.ofNat 8 e.val]) s = .next t ∧ HandedOn s t ∧
      CycleFollows s t) ∧
  (∀ (tag : Byte) (s : State), s.hasRoom .desk →
    ∃ t, exec (.shiftChange .desk tag []) s = .next t ∧ HandedOn s t ∧ CycleFollows s t) ∧
  (∀ (e : EntryNo) (y : Entry) (m : Nat) (s : State), s.entry e = some y →
    y.expiry = some m → m ≤ s.now →
    ∃ t, exec (.overrideExpiry e) s = .next t ∧ HandedOn s t ∧ CycleFollows s t) ∧
  ∀ (tag v : Byte) (g : Fin 8) (s : State), s.hasRoom .service → 4 ≤ g.val → v.toNat < 64 →
    (s.cfg.groupMask g).toNat ≠ v.toNat →
    ∃ t, exec (.setConfig .service tag [100, BitVec.ofNat 8 g.val, 0, 0, 0, v]) s = .next t ∧
      (t.cfg.groupMask g).toNat = v.toNat ∧
      (∀ h, h ≠ g → t.cfg.groupMask h = s.cfg.groupMask h) ∧ EntriesKept [] s t ∧
      (s.sc.airRequest = true → t.sc = s.sc → ∀ e y, t.entry e = some y → y.kind = .air →
        y.target = .group g → y.suspended = (v.toNat != 0 && v.toNat / 8 == 0)) ∧
      HandedOn s t ∧ CycleFollows s t ∧
      Keeps [.zones, .screen, .doors, .overrides, .power, .elements, .links, .counters, .store,
        .notices, .ports] s t

/-! ### The Power Allocator (chapter 5) -/

/-- SET-ENVELOPE takes the envelope, makes it LIVE with its hold timer running 1000 ms, ends a restore
ceiling that the envelope no longer exceeds, and replies the budget and the accounted draw of its pass. The
envelope hold timer makes the envelope the fallback and its state LAPSED, ends an open surplus window and
raises ENVELOPE-LAPSED. -/
def Obligations.EnvelopeIsSetAndLapses : Prop :=
  ∀ s : State,
    (∀ tag hi lo : Byte, s.hasRoom .power →
      let asked := (hi ++ lo).toNat
      let e := min 1000 asked
      ∃ t, exec (.setEnvelope .power tag [hi, lo]) s = .next t ∧
        Answered .power 0x07 tag
          ((if asked ≤ 1000 then 0x00 else 0x01) :: (w16 t.budget ++ w16 t.accountedDraw)) s t ∧
        MaskKept .power s t ∧
        Allocated { s.pa with
          envelope := e, envState := .live, envTimer := some (s.now + 1000),
          ceilingActive := s.ceilingStays e, stepTimer := s.stepTimerUnder e } t ∧
        DemandsKept s t ∧ t.grantsRight ∧ HeatDivided t ∧ LevelsStaged t ∧ Staged s.es t ∧ OrdersSent s t ∧
        Keeps [.power, .elements, .counters, .notices, .links, .ports] s t) ∧
    (due s.pa.envTimer s.now = true →
      let e := s.cfg.fallbackEnvelope
      ∃ t, exec .envelopeHoldExpiry s = .next t ∧
        Allocated { s.pa with
          envelope := e, envState := .lapsed, envTimer := none,
          ceilingActive := s.ceilingStays e, stepTimer := s.stepTimerUnder e,
          surplus := s.surplusEnded } t ∧
        DemandsKept s t ∧ t.grantsRight ∧ HeatDivided t ∧ LevelsStaged t ∧ Staged s.es t ∧ OrdersSent s t ∧
        Raised .envelopeLapsed t ∧ (s.pa.surplus.isOpen = true → Raised .surplusEnd t) ∧
        Keeps [.power, .elements, .counters, .notices, .links] s t) ∧
    (due s.pa.envTimer s.now = false → s.linksSettled →
      ∃ t, exec .envelopeHoldExpiry s = .next t ∧ Keeps [] s t)

/-- OFFER-SURPLUS accepts the lesser of the clamped offer and the headroom of the eligible elements, opens
or replaces the window when it accepts something, and otherwise ends an open one. What is accepted is
divided over the eligible elements by their headrooms, in slot order; a pass then trims each share so that
it fits beside the granted portion, and the levels are staged with it. Each offer signals SURPLUS-OFFERED
and SURPLUS-ACCEPTED. END-SURPLUS and the end time of the window end an open window with SURPLUS-END;
without an open window END-SURPLUS is answered DONE, and the end time brings nothing. -/
def Obligations.SurplusIsOfferedAndEnds : Prop :=
  (∀ (tag ah al wh wl : Byte) (s : State), s.hasRoom .power →
     let offered := max 1 (min (ah ++ al).toNat 400)
     let window := max 50 (min (wh ++ wl).toNat 2000)
     let accepted :=
       if s.pa.line = .present ∧ s.pa.envState ≠ .none then
         min offered (((allSlots.filter s.eligible).map s.headroom).sum)
       else 0
     let takers := allSlots.filter s.eligible
     let shares := divide accepted (takers.map s.headroom)
     let share (i : SlotNo) : Nat := shares.getD (takers.idxOf i) 0
     ∃ t, exec (.offerSurplus .power tag [ah, al, wh, wl]) s = .next t ∧
       Answered .power 0x08 tag
         ((if offered = (ah ++ al).toNat ∧ window = (wh ++ wl).toNat then 0x00 else 0x01) ::
           w16 accepted) s t ∧
       MaskKept .power s t ∧
       Allocated { s.pa with
         surplus :=
           if 0 < accepted then
             { s.pa.surplus with
               isOpen := true, offered := offered, accepted := accepted,
               endTime := some (s.now + window) }
           else s.surplusEnded } t ∧
       (0 < accepted →
         (∀ i, s.eligible i = false → t.absorbed i = 0) ∧ SurplusTrimmed share t ∧
           (s.slotsRight → s.queueHasRoom → ∀ i,
             t.absorbed i = min (share i) ((s.slot i).rating - (t.elem i).granted))) ∧
       Signalled .surplusOffered [(none, offered)] s t ∧
       Signalled .surplusAccepted [(none, accepted)] s t ∧ HeatDivided t ∧ LevelsStaged t ∧
       (accepted = 0 → s.pa.surplus.isOpen = true → Raised .surplusEnd t) ∧
       DemandsKept s t ∧ t.grantsRight ∧ Staged s.es t ∧ OrdersSent s t ∧
       Keeps [.power, .elements, .counters, .notices, .links, .ports] s t) ∧
  ∀ (tag : Byte) (s : State),
    let ended (t : State) : Prop :=
      Allocated { s.pa with surplus := SurplusRec.closed } t ∧ (∀ i, t.absorbed i = 0) ∧
        DemandsKept s t ∧ t.grantsRight ∧ HeatDivided t ∧ LevelsStaged t ∧ Staged s.es t ∧
        OrdersSent s t ∧ Raised .surplusEnd t
    (s.hasRoom .power → s.pa.surplus.isOpen = true →
      ∃ t, exec (.endSurplus .power tag []) s = .next t ∧
        Answered .power 0x09 tag [0x00] s t ∧ MaskKept .power s t ∧ ended t ∧
        Keeps [.power, .elements, .counters, .notices, .links, .ports] s t) ∧
    (s.hasRoom .power → s.pa.surplus.isOpen = false → s.linksSettled →
      ∃ t, exec (.endSurplus .power tag []) s = .next t ∧
        Answered .power 0x09 tag [0x00] s t ∧ MaskKept .power s t ∧ Keeps [.ports] s t) ∧
    (s.pa.surplus.isOpen = true → due s.pa.surplus.endTime s.now = true →
      ∃ t, exec .surplusWindowEndTime s = .next t ∧ ended t ∧
        Keeps [.power, .elements, .counters, .notices, .links] s t) ∧
    (s.pa.surplus.isOpen = false ∨ due s.pa.surplus.endTime s.now = false → s.linksSettled →
      ∃ t, exec .surplusWindowEndTime s = .next t ∧ Keeps [] s t)

/-- The filtered LINE becoming INACTIVE under power enters GAP: the pre-gap draw and the gap start are kept,
the dewire timer runs, ceiling and surplus window end, nothing is granted, every zone takes the GAP reason,
GAP-BEGIN is raised, GAP is signalled, and FORCED-SHED with the number of contactors opened within their
minimum on-time. The filtered LINE becoming ACTIVE in GAP or DEWIRED returns the line: the ceiling starts at
the pre-gap draw after GAP and at 0 after DEWIRED and runs only below the envelope, every zone leaves the
GAP reason, and GAP-END is raised. Otherwise the filtered level alone changes. That the pre-gap draw is kept
uncapped is the model's reading (notes/assumptions/38.md). -/
def Obligations.LineLostAndReturned : Prop :=
  ∀ s : State,
    let gapIs (b : Bool) (t : State) : Prop :=
      ∀ z, t.zone z =
        { s.zone z with
          reasons := { (s.zone z).reasons with gap := b }
          state := { (s.zone z).reasons with gap := b }.rank }
    let filtered (f : Filtered) (t : State) : Prop :=
      t.input lineInput = { s.input lineInput with filtered := f } ∧
        ∀ i, i ≠ lineInput → t.input i = s.input i
    (s.filterDue lineInput = true → s.sense lineInput = .inactive → s.pa.line = .present →
      ∃ t, exec .lineFilterExpiry s = .next t ∧
        Allocated { s.pa with
          preGapDraw := s.accountedDraw, gapStart := some s.now, line := .gap,
          dewireTimer := some (s.now + s.cfg.dewireThreshold * 1000),
          ceilingActive := false, stepTimer := none, surplus := s.surplusEnded } t ∧
        t.budget = 0 ∧ (∀ m, (t.member m).grant = 0) ∧ DemandsKept s t ∧
        (s.surplusRight → s.slotsRight → t.heatersOff ∧ t.es.queue = []) ∧ Staged s.es t ∧
        gapIs true t ∧ filtered .inactive t ∧ Raised .gapBegin t ∧
        Signalled .gap [(none, 1)] s t ∧
        Signalled .forcedShed (shedOnce (allSlots.filter s.closedShort).length) s t ∧
        HeatDivided t ∧ LevelsStaged t ∧
        (s.pa.surplus.isOpen = true → Raised .surplusEnd t) ∧ OrdersSent s t ∧
        Keeps [.inputs, .zones, .power, .elements, .counters, .notices, .links] s t) ∧
    (s.filterDue lineInput = true → s.sense lineInput = .active → s.pa.line ≠ .present →
      let c := if s.pa.line = .gap then s.pa.preGapDraw else 0
      let runs := decide (s.pa.envState = .none) || decide (c < s.pa.envelope)
      ∃ t, exec .lineFilterExpiry s = .next t ∧
        Allocated { s.pa with
          line := .present, dewireTimer := none, ceiling := c, ceilingActive := runs,
          stepTimer := if runs then some (s.now + 250) else none } t ∧
        DemandsKept s t ∧ t.grantsRight ∧ Staged s.es t ∧ gapIs false t ∧
        filtered .active t ∧ Raised .gapEnd t ∧ Signalled .gap [] s t ∧
        HeatDivided t ∧ LevelsStaged t ∧ OrdersSent s t ∧
        Keeps [.inputs, .zones, .power, .elements, .counters, .notices, .links] s t) ∧
    (s.filterDue lineInput = true → s.linksSettled →
      (s.sense lineInput = .inactive ∧ s.pa.line ≠ .present) ∨
        (s.sense lineInput = .active ∧ s.pa.line = .present) →
      ∃ t, exec .lineFilterExpiry s = .next t ∧ filtered (s.sense lineInput) t ∧
        Keeps [.inputs] s t) ∧
    (s.filterDue lineInput = false → s.linksSettled →
      ∃ t, exec .lineFilterExpiry s = .next t ∧ Keeps [] s t)

/-- The dewire timer in GAP makes the line DEWIRED, raises DEWIRED and signals DEWIRE; the restore step
timer raises an active ceiling by a quarter of the ramp, at least 1, up to 1000, and ends it at the
envelope. -/
def Obligations.DewireAndRestoreSteps : Prop :=
  ∀ s : State,
    (s.pa.line = .gap → due s.pa.dewireTimer s.now = true →
      ∃ t, exec .dewireTimerExpiry s = .next t ∧
        Allocated { s.pa with line := .dewired, dewireTimer := none } t ∧ DemandsKept s t ∧
        t.grantsRight ∧ Staged s.es t ∧ Raised .dewired t ∧ Signalled .dewire [(none, 1)] s t ∧
        HeatDivided t ∧ LevelsStaged t ∧ OrdersSent s t ∧
        Keeps [.power, .elements, .counters, .notices, .links] s t) ∧
    (s.pa.line ≠ .gap ∨ due s.pa.dewireTimer s.now = false → s.linksSettled →
      ∃ t, exec .dewireTimerExpiry s = .next t ∧ Keeps [] s t) ∧
    (s.pa.ceilingActive = true → due s.pa.stepTimer s.now = true →
      let c := min 1000 (s.pa.ceiling + max 1 (s.cfg.restoreRamp / 4))
      let runs := decide (s.pa.envState = .none) || decide (c < s.pa.envelope)
      ∃ t, exec .restoreStep s = .next t ∧
        Allocated { s.pa with
          ceiling := c, ceilingActive := runs,
          stepTimer := if runs then some (s.now + 250) else none } t ∧
        DemandsKept s t ∧ t.grantsRight ∧ HeatDivided t ∧ LevelsStaged t ∧ Staged s.es t ∧
        OrdersSent s t ∧
        Keeps [.power, .elements, .counters, .notices, .links] s t) ∧
    (s.pa.ceilingActive = false ∨ due s.pa.stepTimer s.now = false → s.linksSettled →
      ∃ t, exec .restoreStep s = .next t ∧ Keeps [] s t)

/-- The allocation timer restarts and brings a pass. It releases held contactors while they hold more than
the budget, SALOON before CAB, the latest closed first and the higher slot number among equals, and signals
FORCED-SHED once with their number; the other held ones stay closed. It keeps the grants within the budget
and flags a short class, with its notice timer running from its first short pass and SHORTFALL-PASS
signalled with what is missing; the order in which the classes signal is the model's choice
(notes/assumptions/43.md). It trims the absorbed amounts, and the contactors of every zone stay within its
grant. The notice timer of a class raises SHORTFALL and stops. -/
def Obligations.AllocationPassShares : Prop :=
  ∀ s : State,
    (due s.pa.allocTimer s.now = true →
      ∃ t, exec .allocationTimerExpiry s = .next t ∧
        Allocated { s.pa with allocTimer := some (s.now + 250) } t ∧ DemandsKept s t ∧
        t.grantsRight ∧
        (∀ c, (t.class c).short = decide ((t.class c).grant < (t.class c).demand) ∧
          (t.class c).timer =
            if (t.class c).short then
              (if (s.class c).short then (s.class c).timer
               else some (s.now + s.cfg.shortfallNotice * 1000))
            else none) ∧
        (∀ z, t.closedOrQueued z ≤ t.zoneGrant z) ∧
        (∀ i, s.isHeld i = true →
          t.elem i = if s.released i then (s.elem i).opened s.now else s.elem i) ∧
        (∀ m, (t.member m).held =
          match baseZone? m with
          | some z => s.ratings (allSlots.filter fun i => s.heldOf z i && !s.released i)
          | none => 0) ∧
        (let short (k : HeatClass) (code : Nat) : List (CountedEvent × Option Nat × Nat) :=
           if (t.class k).grant < (t.class k).demand then
             [(.shortfallPass, some code, (t.class k).demand - (t.class k).grant)]
           else []
         let events :=
           (shedOnce (allSlots.filter s.released).length).map (fun o => (.forcedShed, o)) ++
             short .screen 0 ++ short .cab 1 ++ short .door 2 ++ short .saloon 3
         t.ac = (events.foldl (fun u e => u.signal e.1 e.2.1 e.2.2) s).ac) ∧
        SurplusTrimmed s.absorbed t ∧ HeatDivided t ∧ LevelsStaged t ∧
        Staged s.es t ∧ OrdersSent s t ∧
        Keeps [.power, .elements, .counters, .notices, .links] s t) ∧
    (due s.pa.allocTimer s.now = false → s.linksSettled →
      ∃ t, exec .allocationTimerExpiry s = .next t ∧ Keeps [] s t) ∧
    ∀ c, s.linksSettled →
      (due (s.class c).timer s.now = true →
        ∃ t, exec (.shortfallTimerExpiry c) s = .next t ∧
          t.class c = { s.class c with timer := none } ∧ (∀ d, d ≠ c → t.class d = s.class d) ∧
          t.pa = { s.pa with classes := t.pa.classes } ∧ Raised .shortfall t ∧
          Keeps [.power, .notices] s t) ∧
      (due (s.class c).timer s.now = false →
        ∃ t, exec (.shortfallTimerExpiry c) s = .next t ∧ Keeps [] s t)

/-- A pass stages every zone, curtain and film from its grants. From the free contactors of a zone it takes
the subset of the largest sum that fits beside the held ones, then the greatest rating already closed or
queued, then the lower slot number at the first difference; a chosen open one is queued, a closed one that
is not chosen is ordered open, a queued one that is not chosen leaves the queue, and one that waits out its
minimum off-time takes no part. A modulated element gets what is left of the zone grant with its absorbed
amount, a curtain and the film their member grants. The queue keeps its order, and an element out of service
is left alone. Stated for a closure queue with room for every contactor in service; which contactors enter a
queue with too few free places is the model's choice (notes/assumptions/39.md). -/
def Obligations.StagingFollowsTheGrants : Prop :=
  ∀ s : State, due s.pa.allocTimer s.now = true → s.slotsRight → s.queueRight →
    s.queueHasRoom →
    ∃ t, exec .allocationTimerExpiry s = .next t ∧
      ContactorsSwitched s.afterRelease t ∧ LevelsStaged t ∧ t.queueRight ∧
      (∀ i, (s.elem i).state ≠ .inService → t.elem i = s.elem i) ∧
      ∀ i, t.absorbed i = min (s.absorbed i) ((s.slot i).rating - (t.elem i).granted)

/-- The 1 s draw timer restarts and signals ENERGY with the accounted draw: every unfrozen enabled counter of
ENERGY rises by its mode where the draw reaches its threshold, wraps at 2^32 with its overflow flag and
COUNTER-OVERFLOW, and freezes all eight where its setup says so. -/
def Obligations.EnergyCounted : Prop :=
  ∀ s : State, s.linksSettled →
    (due s.pa.drawTimer s.now = true →
      let qty := s.accountedDraw
      let takes (k : CounterRec) : Bool :=
        k.setup.event == .energy && k.setup.enable && !k.frozen
      let rise (k : CounterRec) : Nat :=
        if k.setup.threshold ≤ qty then
          match k.setup.mode with
          | .count => 1
          | .sum => qty
          | .edge => if k.counted then 0 else 1
        else 0
      let wraps (k : CounterRec) : Bool := takes k && decide (2 ^ 32 ≤ k.value + rise k)
      let freezes : Bool := (List.finRange 8).any fun j =>
        wraps s.ac[j] && (s.ac[j]).setup.freezeOnOverflow
      ∃ t, exec .energy s = .next t ∧
        t.pa = { s.pa with drawTimer := some (s.now + 1000) } ∧
        (∀ i : Fin 8, t.ac[i] =
          let k := s.ac[i]
          { k with
            value :=
              if wraps k then k.value + rise k - 2 ^ 32
              else if takes k then k.value + rise k
              else k.value
            overflow := k.overflow || wraps k
            frozen := k.frozen || freezes
            counted :=
              if takes k ∧ k.setup.mode = .edge then decide (k.setup.threshold ≤ qty)
              else k.counted }) ∧
        ((∃ j : Fin 8, wraps s.ac[j] = true) → Raised .counterOverflow t) ∧
        Keeps [.power, .counters, .notices] s t) ∧
    (due s.pa.drawTimer s.now = false →
      ∃ t, exec .energy s = .next t ∧ Keeps [] s t)

/-! ### The Configuration Store (chapter 11) -/

/-- SET-CONFIG puts the value, clamped into the item's range, into the working configuration and replies it
as it stands; an item that its owner reads at its next use changes nothing else. A number or an index
without an item, a value outside the codes and sets of R187, a change that would break the element map of R5
and one that would break the threshold order of R65 are REFUSED-MALFORMED, a fixed group REFUSED-TARGET. The
boundary cases of the checks, such as a width code below 0 or an enable, a polarity or a cold-start enable
other than 0 and 1, are the model's reading (notes/assumptions/29.md). -/
def Obligations.SetConfigReplacesItem : Prop :=
  ∀ (tag num idx b3 b2 b1 b0 : Byte) (s : State), s.hasRoom .service →
    let command := Instr.setConfig .service tag [num, idx, b3, b2, b1, b0]
    let asked := (b3 ++ b2 ++ b1 ++ b0).toInt
    let item := Item.ofCodes? num.toNat idx.toNat
    let refused (status : Byte) : Prop :=
      ∃ t, exec command s = .next t ∧ Answered .service 0x0A tag [status] s t ∧
        MaskKept .service s t ∧ Keeps [.ports] s t
    (∀ it, item = some it → Acceptable s.cfg it asked → it.fixedGroup = false →
      let v := max it.range.1 (min asked it.range.2)
      ∃ t, exec command s = .next t ∧
        Answered .service 0x0A tag
          ((if v = asked then 0x00 else 0x01) :: num :: idx :: w32 v) s t ∧
        MaskKept .service s t ∧ t.cs = { s.cs with work := s.cfg.put it v } ∧
        t.cfg.get it = v ∧
        (num.toNat ∈ [16, 20, 21, 22, 23, 24, 25, 27, 28, 29, 40, 41, 42, 43, 47, 48, 49, 50, 65,
            74, 76, 77, 80, 81, 82, 83, 90, 91, 92, 101] →
          OrdersSent s t ∧ Keeps [.store, .links, .ports] s t) ∧
        Keeps [.samples, .zones, .screen, .inputs, .doors, .overrides, .power, .elements, .links,
          .counters, .store, .notices, .ports] s t) ∧
    (s.linksSettled →
      (item = none → refused 0x05) ∧
      (∀ it, item = some it → ¬ Acceptable s.cfg it asked → refused 0x05) ∧
      ∀ it, item = some it → Acceptable s.cfg it asked → it.fixedGroup = true →
        refused 0x07)

/-- SET-CONFIG of the items of the cabin that act at once: the sensor times age every record anew, and the
fallback selects To, with the acting mode of FAILSAFE and the curtains following; a weight and Bd make the
DDC post, Bd in an OPEN door's level too; Imax clamps every integrator; the demist floor sets the section
air; the film share and the two screen parts are posted anew; the held limit moves the timers of the OPEN
doors, one open that long becoming HELD; the curtain threshold and the held share compute every curtain
anew. That sensor times act on a change alone (notes/assumptions/23.md), FAILSAFE for an exit without a
margin (notes/assumptions/20.md), the thresholds of that exit (notes/assumptions/34.md), that ARMED and HELD
doors take Bd at the next tick (notes/assumptions/24.md), that the screen takes its qualities before To
(notes/assumptions/32.md), and that door 1 moves first (notes/assumptions/44.md), is the model's. -/
def Obligations.CabinItemsActAtOnce : Prop :=
  ∀ (tag num idx b3 b2 b1 b0 : Byte) (s : State) (it : Item), s.hasRoom .service →
    let asked := (b3 ++ b2 ++ b1 ++ b0).toInt
    let v := max it.range.1 (min asked it.range.2)
    Item.ofCodes? num.toNat idx.toNat = some it → Acceptable s.cfg it asked →
    let c := s.cfg.put it v
    ∃ t, exec (.setConfig .service tag [num, idx, b3, b2, b1, b0]) s = .next t ∧ t.cfg = c ∧
      (let qualities (x : State) := ((x.value .glass).quality, (x.value .humidity).quality)
       let mode : Option ActingMode := some (if t.st.outsideTemp < 50 then .demist else .clear)
       let screenFollowsTo : Prop :=
         if t.st.outsideTemp ≠ s.st.outsideTemp ∧ s.sc.state = .failsafe ∧ s.sc.acting ≠ mode then
           t.sc = ({ s.sc with exitHold := none } : ScreenRec).taking c .failsafe mode ∧
             ScreenPosted t ∧ ScreenHanded t ∧ (mode = some .demist → Raised .demistActive t)
         else t.sc = s.sc ∧ ScreenNotPosted s t
       let readersFollow : Prop :=
         OutsideSelected t ∧ t.st.firstOutside = s.st.firstOutside ∧
           (if t.st.outsideTemp = s.st.outsideTemp then t.ddc = s.ddc ∧ DoorsNotPosted s t
            else CurtainsFollow s t) ∧
           Keeps [.samples, .zones, .screen, .doors, .overrides, .power, .elements, .links,
             .counters, .store, .notices, .ports] s t
       let retimed : Prop :=
         if s.cfg.get it = v then OrdersSent s t ∧ Keeps [.store, .links, .ports] s t
         else
           (∀ u,
             let r := s.value u
             let reached (secs : Nat) : Bool := due (r.lastValid.map (· + secs * 1000)) s.now
             t.value u =
               if r.quality = .missing then r
               else if reached c.sensorDegrade then
                 { r with quality := .missing, value := none, window := [] }
               else if reached c.sensorHold then { r with quality := .stale }
               else { r with quality := .fresh }) ∧
           (qualities t = qualities s → screenFollowsTo) ∧
           (qualities t ≠ qualities s →
             (t.sc.tgQuality, t.sc.rhQuality) = qualities t ∧
             (s.sc.state ≠ .defrost →
               (qualities t).1 = .missing ∨ (qualities t).2 = .missing →
                 t.sc.state = .failsafe ∧ t.sc.acting = (if s.sc.state = .failsafe ∧
                   t.st.outsideTemp = s.st.outsideTemp then s.sc.acting else mode)) ∧
             (s.sc.state = .failsafe → qualities t = (.fresh, .fresh) →
               t.sc.state =
                 match t.sc.margin with
                 | none => .failsafe
                 | some m =>
                   if s.sc.mWatch ≤ m then .clear else if s.sc.mOn ≤ m then .watch
                   else .demist)) ∧
           readersFollow
       let doorFrame : Prop :=
         t.ddc.tick = s.ddc.tick ∧
           Keeps [.doors, .power, .elements, .links, .counters, .store, .notices, .ports] s t
       let reposted : Prop :=
         t.sc = s.sc.reposting c ∧ ScreenPosted t ∧
           (t.member filmMember).demand = t.clampedOwned .screen (t.member filmMember).posted ∧
           t.zoneDemands 0 = t.clampedParts 0 ∧
           (t.zoneDemands 0 ≠ s.zoneDemands 0 → t.grantsRight) ∧
           Keeps [.screen, .power, .elements, .links, .counters, .store, .notices, .ports] s t
       let limit (d : DoorNo) : Timer := (s.door d).openStart.map (· + v.toNat * 1000)
       let outlasts (d : DoorNo) : Prop := (s.door d).state = .open ∧ due (limit d) s.now = true
       match it with
       | .sensorHold => retimed
       | .sensorDegrade => retimed
       | .fallbackOutside => (∀ u, t.value u = s.value u) ∧ screenFollowsTo ∧ readersFollow
       | .weight _ _ =>
         (∀ e, t.door e = { s.door e with contribution := (t.door e).contribution }) ∧
           DoorsPosted t ∧ doorFrame
       | .imax =>
         (∀ z,
           let i := max (-(v * 256)) (min (v * 256) (s.zone z).integ)
           t.zone z = { s.zone z with integ := i, iTerm := i.tdiv 256 }) ∧
           (∀ n, t.air n = s.air n) ∧ t.zr.passTimer = s.zr.passTimer ∧
           Keeps [.zones, .store, .links, .ports] s t
       | .demistFloor =>
         (∀ n,
           let normal := if s.st.outsideTemp < 0 then c.freshCold else c.freshMild
           let base := (s.airValue n).getD normal
           let floored := n = .front ∧ s.sc.airRequest = true ∧ base < v.toNat
           t.air n = {
             normalFresh := normal, resolvedAir := s.airValue n
             source :=
               if floored then .floored
               else if (s.airValue n).isSome then .overridden
               else .normal
             commanded := if floored then v.toNat else base }) ∧
           (∀ z, t.zone z = s.zone z) ∧ t.zr.passTimer = s.zr.passTimer ∧
           Keeps [.zones, .store, .links, .ports] s t
       | .filmShare => reposted
       | .qDemist => reposted
       | .qDefrost => reposted
       | .bd d =>
         (∀ e, t.door e = { s.door e with
           level := if e = d ∧ (s.door e).state = .open then v.toNat else (s.door e).level
           contribution := (t.door e).contribution }) ∧
           DoorsPosted t ∧ doorFrame
       | .heldLimit =>
         (∀ d, t.door d =
           { (if outlasts d then
                t.withCurtain d
                  { s.door d with state := .held, level := s.cfg.bd[d] / 2, heldTimer := none }
              else if (s.door d).state = .open then { s.door d with heldTimer := limit d }
              else s.door d) with
             contribution := (t.door d).contribution }) ∧
           ((∃ d, outlasts d) → DoorsPosted t ∧ Raised .doorHeld t) ∧
           ((∀ d, ¬ outlasts d) → Keeps [.doors, .store, .links, .ports] s t ∧ DoorsNotPosted s t) ∧
           (∀ z, t.zone z = { s.zone z with
             blower :=
               if ∃ d, outlasts d ∧ (s.cfg.weights[d])[z] ≠ 0 then t.flooredLevel z
               else (s.zone z).blower }) ∧
           t.ddc.tick = s.ddc.tick ∧
           Keeps [.doors, .zones, .power, .elements, .links, .counters, .store, .notices, .ports]
             s t
       | .curtainThreshold => CurtainsFollow s t ∧ doorFrame
       | .heldShare => CurtainsFollow s t ∧ doorFrame
       | _ => True)

/-- SET-CONFIG of the items of the line, the power account and the links that act at once: a filter time of
LINE has the effect that the expiry of its filter has under it; the dewire threshold moves the timer of a
running gap, a gap that old becoming DEWIRED; the fallback envelope is taken in LAPSED, with the ceiling
test and a pass; a quota takes a pass; the node silence limit moves the silence timer of each link, and an
UP link that has been silent that long becomes LOST. That the front link goes first is the model's choice
(notes/assumptions/41.md). -/
def Obligations.PowerItemsActAtOnce : Prop :=
  ∀ (tag num idx b3 b2 b1 b0 : Byte) (s : State) (it : Item), s.hasRoom .service →
    let asked := (b3 ++ b2 ++ b1 ++ b0).toInt
    let v := max it.range.1 (min asked it.range.2)
    Item.ofCodes? num.toNat idx.toNat = some it → Acceptable s.cfg it asked →
    let c := s.cfg.put it v
    ∃ t, exec (.setConfig .service tag [num, idx, b3, b2, b1, b0]) s = .next t ∧ t.cfg = c ∧
      (let filtered : Prop :=
         ∃ u, exec .lineFilterExpiry { s with cs := { s.cs with work := c } } = .next u ∧
           ∀ q, q ≠ Part.ports → t.part q = u.part q
       let passFrame : Prop :=
         DemandsKept s t ∧ t.grantsRight ∧ HeatDivided t ∧ LevelsStaged t ∧ Staged s.es t ∧
           OrdersSent s t ∧
           Keeps [.power, .elements, .links, .counters, .store, .notices, .ports] s t
       let nothing : Prop := OrdersSent s t ∧ Keeps [.store, .links, .ports] s t
       let dewire : Timer := s.pa.gapStart.map (· + v.toNat * 1000)
       let silence (n : Node) : Timer :=
         if (s.link n).silenceTimer = none then none else (s.link n).lastValid.map (· + v.toNat)
       let lost (n : Node) : Prop :=
         due (silence n) s.now = true ∧ (s.link n).state = .up
       let leaves (i : SlotNo) : Prop :=
         (s.slot i).present = true ∧ (s.elem i).state = .inService ∧ lost (s.slot i).node
       match it with
       | .dropFilter => filtered
       | .restoreFilter => filtered
       | .dewireThreshold =>
         if s.pa.line = .gap then
           if due dewire s.now then
             Allocated { s.pa with line := .dewired, dewireTimer := none } t ∧
               Raised .dewired t ∧ passFrame
           else
             t.pa = { s.pa with dewireTimer := dewire } ∧ OrdersSent s t ∧
               Keeps [.power, .store, .links, .ports] s t
         else nothing
       | .fallbackEnvelope =>
         if s.pa.envState = .lapsed then
           Allocated { s.pa with
             envelope := v.toNat, ceilingActive := s.ceilingStays v.toNat
             stepTimer := s.stepTimerUnder v.toNat } t ∧ passFrame
         else nothing
       | .quota _ => Allocated s.pa t ∧ passFrame
       | .nodeSilence =>
         (∀ n, (t.link n).sentFrom
           (if lost n then
             { s.link n with
               silenceTimer := none, state := .lost, lostTime := some s.now, validRun := 0
               heldDraw := (t.link n).heldDraw, heldTimer := some (s.now + 3000) }
            else
             { s.link n with
               silenceTimer := if due (silence n) s.now then none else silence n })) ∧
           (∀ n, lost n → n = .front ∨ ¬ lost .front →
             (t.link n).heldDraw = s.drawOf (s.nodeSlots n)) ∧
           Staged { s.es with
             elems := Vector.ofFn fun i : SlotNo =>
               if leaves i then { s.elem i with state := .offline, lockout := none }
               else s.elem i } t ∧
           (∀ i, leaves i →
             (t.elem i).closed = false ∧ (t.elem i).duty = 0 ∧ i ∉ t.es.queue ∧
               t.absorbed i = 0) ∧
           ((∃ n, lost n) →
             Raised .nodeLost t ∧ Allocated s.pa t ∧ AllClamped t ∧ t.grantsRight ∧
               HeatDivided t) ∧
           ((∀ n, ¬ lost n) → Keeps [.store, .links, .ports] s t) ∧
           Keeps [.power, .elements, .links, .counters, .store, .notices, .ports] s t
       | _ => True)

/-- SET-CONFIG of the presence, node, output, owner, kind or rating of a slot takes the element off and
gives it its record under the new values: no applied level and no mismatch after a change of node or output,
the state that a new node gives, and nothing left of it in a slot made ABSENT. Every demand is clamped anew,
a pass is taken, a contactor taken off within its minimum on-time is counted as FORCED-SHED, and the screen
or the door that owns the slot reposts. That the value an item holds already is no change
(notes/assumptions/23.md), and that a slot which becomes a contactor takes that moment as its opened-since
time (notes/assumptions/25.md), and that at a change of owner the old owner reposts and then the new one
(notes/assumptions/48.md), is the model's reading. -/
def Obligations.ElementChangedUnderPower : Prop :=
  ∀ (tag num idx b3 b2 b1 b0 : Byte) (s : State) (i : SlotNo) (it : Item), s.hasRoom .service →
    let asked := (b3 ++ b2 ++ b1 ++ b0).toInt
    let v := max it.range.1 (min asked it.range.2)
    Item.ofCodes? num.toNat idx.toNat = some it →
    it ∈ [Item.presence i, .node i, .output i, .owner i, .kind i, .rating i] →
    Acceptable s.cfg it asked →
    let c := s.cfg.put it v
    let old := s.slot i
    let new := c.slots[i]
    let home : ElemState := if (s.link new.node).state = .lost then .offline else .inService
    let fitted (e : ElemRec) : ElemRec :=
      let cleared : ElemRec := { e with
        lockout := none, lockoutTimer := none, autoReleases := 0, mismatch := 0, applied := none
        overheat := false }
      let moved : ElemRec :=
        if old.node = new.node ∧ old.output = new.output then e
        else { e with applied := none, mismatch := 0 }
      if new.present = false then { cleared with state := .absent }
      else if old.present = false then { cleared with state := home }
      else if old.node ≠ new.node ∧ (e.state = .inService ∨ e.state = .offline) then
        { moved with state := home }
      else moved
    let owners := [old.owner, new.owner]
    ∃ t, exec (.setConfig .service tag [num, idx, b3, b2, b1, b0]) s = .next t ∧ t.cfg = c ∧
      (s.cfg.get it = v ∨ (old.present = false ∧ new.present = false) →
        OrdersSent s t ∧ Keeps [.store, .links, .ports] s t) ∧
      (s.cfg.get it ≠ v → old.present = true ∨ new.present = true →
        Staged { s.es with elems := updV s.es.elems i fitted } t ∧
        (old.present = true → (t.elem i).closed = false ∧
          ((t.elem i).state ≠ .inService →
            i ∉ t.es.queue ∧ (t.elem i).granted = 0 ∧ (t.elem i).duty = 0 ∧
              (t.elem i).draw = 0 ∧ t.absorbed i = 0)) ∧
        (t.elem i).openedSince =
          (if old.present = true ∧ (new.present = false ∨ old.kind = new.kind) then
            (if (s.elem i).closed then some s.now else (s.elem i).openedSince)
           else if new.kind = .contactor then some s.now
           else none) ∧
        AllClamped t ∧ t.grantsRight ∧ LevelsStaged t ∧
        (s.heldFits → Signalled .forcedShed
          (shedOnce (if old.present = true ∧ s.closedShort i = true then 1 else 0)) s t) ∧
        (if Owner.screen ∈ owners then t.sc = s.sc.reposting c ∧ ScreenPosted t
         else t.sc = s.sc ∧ ScreenNotPosted s t) ∧
        (∀ d, t.door d =
          { (if Owner.curtain d ∈ owners then t.withCurtain d (s.door d) else s.door d) with
            contribution := (t.door d).contribution }) ∧
        ((∃ d, Owner.curtain d ∈ owners) → DoorsPosted t) ∧
        ((∀ d, Owner.curtain d ∉ owners) → t.ddc = s.ddc ∧ DoorsNotPosted s t) ∧
        OrdersSent s t ∧
        Keeps [.screen, .doors, .power, .elements, .links, .counters, .store, .notices, .ports]
          s t)

/-- SET-CONFIG of the enable, polarity or width code of an input. An input switched off is INACTIVE, its
door out of use and CLOSED with the blowers of its zones where it was not CLOSED before, the doors that REL
had armed closed, and the line lost with LINE; one switched on is UNSETTLED from that moment, its door in
use. A new polarity counts the stable time anew, a new width counts from the old stable-since time; an input
whose time has run settles at once, and its doors move. That the value held already is no change
(notes/assumptions/23.md), that a disabled input never settles (notes/assumptions/36.md), that an UNSETTLED
DR lets REL arm its door (notes/assumptions/35.md), that the dwell is kept (notes/assumptions/24.md), that a
CLOSED door out of use makes no state change (notes/assumptions/49.md), and the absent decay times in ARMED
(notes/assumptions/37.md), are the model's. -/
def Obligations.InputSettingsAct : Prop :=
  ∀ (tag : Byte) (s : State), s.hasRoom .service → s.doorsRight →
    let setting (num idx : Nat) (v : Byte) : Instr :=
      .setConfig .service tag [BitVec.ofNat 8 num, BitVec.ofNat 8 idx, 0, 0, 0, v]
    let filters (i : InputNo) : Prop :=
      i = lineInput → 0 < s.cfg.dropFilter ∧ 0 < s.cfg.restoreFilter
    let enabled (i : InputNo) : Prop := (s.cfg.inputs[i]).enable = true
    let immediate (i : InputNo) : Prop := i ≠ lineInput ∧ (s.cfg.inputs[i]).width = 0
    let frame (i : InputNo) (t : State) : Prop :=
      (∀ j, j ≠ i → t.input j = s.input j) ∧
        Keeps [.inputs, .doors, .zones, .power, .elements, .links, .counters, .store, .notices,
          .ports] s t
    let doorsKept (t : State) : Prop := t.ddc = s.ddc ∧ DoorsNotPosted s t
    let settles (i : InputNo) (r : InputRec) (t : State) : Prop :=
      t.input i = { r with filtered := t.sense i } ∧
        ∀ k : Fin 5, i = doorInputNo k → DoorsMoved k (t.sense i) s t
    (∀ i : InputNo, enabled i →
      ∃ t, exec (setting 60 i.val 0) s = .next t ∧ frame i t ∧
        t.input i = { s.input i with filtered := .inactive } ∧
        (∀ d : DoorNo, i.val = d.val →
          (∀ e, t.door e =
            if e = d then
              { s.door d with
                state := .closed, inUse := false, level := 0, curtainHeat := 0
                curtainBlower := .off, vclose := some 0, openStart := none, decayTime := none
                decayRemaining := none, decayTimer := none, heldTimer := none
                trailingTimer := none
                dwell :=
                  match (s.door d).openStart with
                  | some m => min 600000 (s.now - m)
                  | none => (s.door d).dwell
                contribution := (t.door d).contribution }
            else { s.door e with contribution := (t.door e).contribution }) ∧
          DoorsPosted t ∧
          ∀ z, t.zone z = { s.zone z with
            blower :=
              if (s.door d).state ≠ .closed ∧ (s.cfg.weights[d])[z] ≠ 0 then t.flooredLevel z
              else (s.zone z).blower }) ∧
        (i = relInput →
          ((s.input i).filtered = .inactive → doorsKept t) ∧
          ((s.input i).filtered ≠ .inactive → DoorsMoved 4 .inactive s t)) ∧
        (i = lineInput → doorsKept t ∧
          if (s.input i).filtered ≠ .inactive ∧ s.pa.line = .present then
            t.pa.line = .gap ∧ t.pa.gapStart = some s.now ∧ t.budget = 0 ∧
              (∀ m, (t.member m).grant = 0) ∧ Raised .gapBegin t
          else t.pa = s.pa)) ∧
    (∀ i : InputNo, ¬ enabled i → filters i →
      let r : InputRec := { s.input i with filtered := .unsettled, stableSince := s.now }
      let used (d : DoorNo) : DoorRec :=
        { s.door d with inUse := (s.door d).inUse || i.val == d.val }
      let u : State := { s with ddc := { s.ddc with doors := Vector.ofFn used } }
      ∃ t, exec (setting 60 i.val 1) s = .next t ∧ frame i t ∧
        (¬ immediate i → t.input i = r ∧
          (∀ d, t.door d = { used d with contribution := (t.door d).contribution })) ∧
        (immediate i → t.input i = { r with filtered := t.sense i } ∧
          ∀ k : Fin 5, i = doorInputNo k → DoorOpenCounted s t ∧
            ∀ d, t.door d =
              { u.doorAfterInput k (t.sense i) d with
                contribution := (t.door d).contribution }) ∧
        (i.val < 4 → DoorsPosted t) ∧
        (4 ≤ i.val → (∀ d, (t.door d).state = (s.door d).state) → doorsKept t)) ∧
    (∀ i : InputNo, filters i →
      let r : InputRec := { s.input i with stableSince := s.now }
      ∃ t, exec (setting 61 i.val (if (s.cfg.inputs[i]).activeHigh then 1 else 0)) s = .next t ∧
        frame i t ∧
        if enabled i ∧ immediate i ∧ r.filtered ≠ t.sense i then settles i r t
        else t.input i = r ∧ doorsKept t) ∧
    ∀ (k : Fin 5) (w : Byte), w.toNat < 4 →
      let i := doorInputNo k
      let width : Nat := if w = 0 then 0 else if w = 1 then 10 else if w = 2 then 40 else 160
      (s.cfg.inputs[i]).width ≠ w.toNat →
      ∃ t, exec (setting 62 k.val w) s = .next t ∧ frame i t ∧
        if enabled i ∧ (s.input i).filtered ≠ t.sense i ∧
            (s.input i).stableSince + width ≤ s.now then
          settles i (s.input i) t
        else t.input i = s.input i ∧ doorsKept t

/-- STORE-CONFIG takes a snapshot of the working configuration and is ACCEPTED, or refused while a store is
in progress; the end of the write makes the snapshot the non-volatile copy where the read-back matches, and
raises STORE-DONE either way. That a completion ends the store whenever it comes, and has no effect in IDLE,
is the model's choice (notes/assumptions/3.md). RESTORE-DEFAULTS puts every item at its factory default and
leaves the non-volatile copy and the store record; where every item stands at its default already, nothing
else happens. Each item that changes is handed on by the operation by which SET-CONFIG hands it on, in item
order after all have been set, the closure queue in the order of the new owners; that order is the model's
choice (notes/assumptions/22.md). Where one item alone changes, under the invariants of the queue and of the
slots, the effect is that of SET-CONFIG of its default. -/
def Obligations.ConfigurationStoredAndRestored : Prop :=
  (∀ (tag : Byte) (s : State), s.linksSettled →
     (s.hasRoom .service → s.cs.storeState = .idle →
       ∃ t, exec (.storeConfig .service tag []) s = .next t ∧
         Answered .service 0x0B tag [0x02] s t ∧ MaskKept .service s t ∧
         t.cs = { s.cs with
           storeState := .storing, snapshot := some s.cfg, nonVolatileGood := false,
           nonVolatile := t.cs.nonVolatile, storeStart := s.now } ∧
         Keeps [.store, .free, .ports] s t) ∧
     (s.hasRoom .service → s.cs.storeState = .storing →
       ∃ t, exec (.storeConfig .service tag []) s = .next t ∧
         Answered .service 0x0B tag [0x08] s t ∧ MaskKept .service s t ∧ Keeps [.ports] s t) ∧
     (∀ snap, s.cs.storeState = .storing → s.cs.snapshot = some snap →
       (∃ t, exec (.storeCompletion true) s = .next t ∧
         t.cs = { s.cs with
           storeState := .idle, snapshot := none, lastStore := .ok, nonVolatile := snap,
           nonVolatileGood := true } ∧
         Raised .storeDone t ∧ Keeps [.store, .free, .notices] s t) ∧
       ∃ t, exec (.storeCompletion false) s = .next t ∧
         t.cs = { s.cs with
           storeState := .idle, snapshot := none, lastStore := .failed,
           nonVolatile := t.cs.nonVolatile, nonVolatileGood := false } ∧
         Raised .storeDone t ∧ Keeps [.store, .free, .notices] s t) ∧
     ∀ m, s.cs.storeState = .idle →
       ∃ t, exec (.storeCompletion m) s = .next t ∧ Keeps [] s t) ∧
  ∀ (tag : Byte) (s : State), s.hasRoom .service →
    ∃ t, exec (.restoreDefaults .service tag []) s = .next t ∧
      Answered .service 0x0C tag [0x00] s t ∧ MaskKept .service s t ∧
      t.cs = { s.cs with work := factory } ∧
      (s.cfg = factory → s.linksSettled → Keeps [.ports] s t) ∧
      (let handed (u v : State) : Prop :=
         (∀ q, q ≠ Part.ports → q ≠ .links → u.part q = v.part q) ∧
           ∀ n, (u.link n).sentFrom (v.link n)
       let changed := allItems.filter fun it => s.cfg.get it != factory.get it
       let defaulted : State := { s with cs := { s.cs with work := factory } }
       handed t (changed.foldl (fun u it => u.itemSet it (s.cfg.get it))
         (if changed = [] then defaulted else defaulted.orderQueue)) ∧
       ∀ (num idx b3 b2 b1 b0 : Byte) (it : Item),
         let asked := (b3 ++ b2 ++ b1 ++ b0).toInt
         let v := max it.range.1 (min asked it.range.2)
         Item.ofCodes? num.toNat idx.toNat = some it → Acceptable s.cfg it asked →
         it.fixedGroup = false →
         ∃ u, exec (.setConfig .service tag [num, idx, b3, b2, b1, b0]) s = .next u ∧
           handed u (State.itemSet { s with cs := { s.cs with work := s.cfg.put it v } } it
             (s.cfg.get it)) ∧
           (s.cfg.put it (factory.get it) = factory → s.cfg.get it ≠ factory.get it →
             asked = factory.get it →
             s.queueRight ∧ s.slotsRight →
             ∀ q, q ≠ Part.ports → t.part q = u.part q)) ∧
      Keeps [.samples, .zones, .screen, .inputs, .doors, .overrides, .power, .elements, .links,
        .counters, .store, .notices, .ports] s t

/-- Device reset loads the non-volatile copy where it passes and the factory defaults otherwise, and leaves
every block in its reset state: the values of each chapter, the postings of the screen and of the doors, the
inputs of width code 0 settled with the doors that they open or arm, and the links with order 0 sent with
every output off. That the time base, the raw levels at the pins, the non-volatile copy and the waiting
commands are kept (notes/assumptions/8.md), that REL arms a door whose DR input is UNSETTLED
(notes/assumptions/35.md), that an input which the configuration disables stays UNSETTLED
(notes/assumptions/36.md), and the margin thresholds before the first computation
(notes/assumptions/34.md), is the model's. -/
def Obligations.DeviceResetClearsTheBlock : Prop :=
  ∀ s : State,
    let passes := s.cs.nonVolatileGood && s.cs.nonVolatile.valid
    let c := if passes then s.cs.nonVolatile else factory
    ∃ t, exec .deviceReset s = .next t ∧
      t.cs = { s.cs with
        work := c, storeState := .idle, snapshot := none, lastStore := .none,
        load := if passes then .loaded else .defaulted } ∧
      (∀ v, t.value v =
        { value := none, window := [], lastValid := none, quality := .missing,
          rejection := .none }) ∧
      t.st.outsideTemp = c.fallbackOutside ∧ t.st.outsideSource = .fallback ∧
      t.st.firstOutside = false ∧
      (let acting : ActingMode := if c.fallbackOutside < 50 then .demist else .clear
       let request := acting == .demist
       let fresh := if c.fallbackOutside < 0 then c.freshCold else c.freshMild
       let sense (i : InputNo) : Filtered :=
         if c.inputs[i].activeHigh = ((s.input i).raw == .high) then .active else .inactive
       let atOnce (i : InputNo) : Bool :=
         i != lineInput && c.inputs[i].enable && c.inputs[i].width == 0
       let opens (d : DoorNo) : Bool :=
         atOnce (drInput d) && sense (drInput d) == .inactive
       let arms (d : DoorNo) : Bool :=
         !opens d && c.inputs[d.val].enable && atOnce relInput && sense relInput == .active
       (∀ z : ZoneNo, t.zone z =
         { ts := c.baseSetpoint[z], tz := none, tzQuality := .missing, err := none, prop := 0
           integ := 0, iTerm := 0, feed := 0, hb := 0, quantHb := 0, upperStop := false
           lowerStop := true
           reasons := { off := false, gap := false, missing := true, stale := false, door := false }
           state := .degraded, lastBaseGrant := 0, lastPosted := 0, shortfall := false
           blower :=
             if z.val = 0 ∧ request then 3
             else if ∃ d : DoorNo, opens d = true ∧ (c.weights[d])[z] ≠ 0 then 2
             else 0
           baseBlower := 0 }) ∧
       t.air .rear =
         { normalFresh := fresh, resolvedAir := none, source := .normal, commanded := fresh } ∧
       t.air .front =
         (if request ∧ fresh < c.demistFloor then
           { normalFresh := fresh, resolvedAir := none, source := .floored
             commanded := c.demistFloor }
          else
           { normalFresh := fresh, resolvedAir := none, source := .normal, commanded := fresh }) ∧
       t.sc = ({
         tcab := c.baseSetpoint[0], tcabSource := .setpoint, rh := none, tg := none
         tgQuality := .missing, rhQuality := .missing, dew := none, margin := none
         state := .failsafe, acting := none, flap := .floor, airRequest := false
         exitHold := none, origin := .none, duration := c.defrostDuration, defrostTimer := none
         glassHold := none, lastEnd := .none, coldDecision := .pending, filmLatch := false
         filmPosted := 0, partPosted := 0, mWatch := c.mWatch, mOn := c.mOn
         } : ScreenRec).taking c .failsafe (some acting) ∧
       ScreenPosted t ∧
       (∀ i, t.input i =
         { raw := (s.input i).raw, stableSince := s.now
           filtered := if atOnce i then sense i else .unsettled }) ∧
       (∀ d : DoorNo,
         let closed : DoorRec :=
           { state := .closed, openStart := none, dwell := 0, level := 0, vclose := none
             decayTime := none, decayRemaining := none, decayTimer := none, ring := []
             curtainHeat := 0, curtainBlower := .off, trailingTimer := none, heldTimer := none
             inUse := c.inputs[d.val].enable, secondsCounted := 0
             contribution := (t.door d).contribution }
         t.door d = t.withCurtain d
           (if opens d then
             { closed with
               state := .open, openStart := some s.now, level := c.bd[d]
               heldTimer := some (s.now + c.heldLimit * 1000) }
            else if arms d then { closed with state := .armed, level := c.bd[d] / 2 }
            else closed)) ∧
       DoorsPosted t ∧ t.ddc.tick = some (s.now + 250)) ∧
      t.zr.passTimer = some (s.now + c.regPeriod * 1000) ∧
      (∀ e, t.entry e = none) ∧ t.ot.running = 0 ∧
      t.pa =
        { line := .dewired, gapStart := none, preGapDraw := 0, dewireTimer := none, envelope := 0
          envState := .none, envTimer := some (s.now + 1000), ceiling := 0
          ceilingActive := false, stepTimer := none, members := t.pa.members
          classes := t.pa.classes, surplus := SurplusRec.closed
          allocTimer := some (s.now + 250), drawTimer := some (s.now + 1000) } ∧
      t.budget = 0 ∧ (∀ m, (t.member m).grant = 0) ∧ (∀ k, (t.class k).grant = 0) ∧
      (∀ z, (t.member (baseMember z)).posted = 0) ∧
      t.es =
        { elems := t.es.elems, queue := [], slotCounter := 0, slotLength := c.slotLength
          markLength := c.markLength, slotTimer := some (s.now + c.slotLength), pmf := true
          pmr := true } ∧
      (∀ i, t.elem i =
        { state := if (c.slots[i]).present then .inService else .absent
          lockout := none, autoReleases := 0, lockoutTimer := none, closed := false, granted := 0
          duty := 0, draw := 0, applied := none, overheat := false, mismatch := 0
          closedSince := none
          openedSince :=
            if (c.slots[i]).present = true ∧ (c.slots[i]).kind = .contactor then some s.now
            else none }) ∧
      (∀ n, ∃ o, t.link n =
          { state := .down, validRun := 0, lastValid := none, silenceTimer := none, window := [o]
            nextNumber := 1, orderTimer := some (s.now + c.orderInterval)
            spacingTimer := some (s.now + 20), pendingMarker := false, echoMiss := 0
            frameErrors := 0, errorWindow := [], latch := LinkErrors.empty, lateEchoes := 0
            restarts := 0, lastRestart := none, lostTime := none, heldDraw := 0
            heldTimer := none, lastOrder := (t.link n).lastOrder } ∧
          o.number = 0 ∧ o.sentAt = s.now ∧ o.timeout = s.now + c.echoTimeout ∧
          ∀ l ∈ o.levels, l.level = 0) ∧
      (∀ i : Fin 8, t.ac[i] =
        { value := 0, overflow := false, frozen := false, counted := false,
          setup := { event := .energy, mask := 0xFF, threshold := 0, mode := .count,
                     freezeOnOverflow := false, enable := false } }) ∧
      (∀ p, (t.port p).replies = [] ∧ (t.port p).receiver = .hunt ∧ (t.port p).frame = [] ∧
        (t.port p).link = .unlinked ∧ (t.port p).lastGood = none ∧
        (t.port p).linkTimer = none ∧ (t.port p).frameErrors = 0 ∧ (t.port p).overruns = 0 ∧
        (t.port p).globalEnable = true ∧ (t.port p).mask = defaultMask p ∧
        ((t.port p).notices = if passes then 0 else 0x20000#20) ∧
        (t.port p).attention = (p == .service && !passes)) ∧
      Keeps [.samples, .zones, .screen, .inputs, .doors, .overrides, .power, .elements, .links,
        .counters, .store, .notices, .ports] s t

/-! ### The Activity Counters (chapter 10) -/

/-- COUNTER-SETUP replaces the setup of one counter, clears what EDGE saw last and keeps the value, overflow
flag and freeze state; a field outside its codes is refused. COUNTER-CONTROL acts on the counters that its
mask names and replies value, overflow flag and freeze state of all eight; UNFREEZE is refused while a
counter has overflowed under freeze-on-overflow. An action above 4, which a frame of the kind can carry, is
refused. The codes of the freeze state in the reply, FROZEN 0 and RUNNING 1 (notes/assumptions/27.md), and
that a refused action comes as an unknown request (notes/assumptions/12.md), are the model's. -/
def Obligations.CountersAreSetAndControlled : Prop :=
  (∀ (tag i ev mask threshold mode flags : Byte) (s : State), s.hasRoom .service →
     s.linksSettled →
     let command := Instr.counterSetup .service tag [i, ev, mask, threshold, mode, flags]
     (∀ (n : Fin 8) e m, i.toNat = n.val → CountedEvent.ofCode? ev.toNat = some e →
       CountMode.ofCode? mode.toNat = some m → flags.toNat < 4 →
       ∃ t, exec command s = .next t ∧
         Answered .service 0x0D tag [0x00, i, ev, mask, threshold, mode, flags] s t ∧
         MaskKept .service s t ∧
         t.ac[n] = { s.ac[n] with
           setup := { event := e, mask := mask, threshold := threshold.toNat, mode := m,
                      freezeOnOverflow := flags.getLsbD 0, enable := flags.getLsbD 1 }
           counted := false } ∧
         (∀ k : Fin 8, k ≠ n → t.ac[k] = s.ac[k]) ∧ Keeps [.counters, .ports] s t) ∧
     (8 ≤ i.toNat ∨ 15 ≤ ev.toNat ∨ 3 ≤ mode.toNat ∨ 4 ≤ flags.toNat →
       ∃ t, exec command s = .next t ∧ Answered .service 0x0D tag [0x05] s t ∧
         MaskKept .service s t ∧ Keeps [.ports] s t)) ∧
  ∀ (tag mask v3 v2 v1 v0 : Byte) (s : State), s.hasRoom .service → s.linksSettled →
    let rest := [mask, v3, v2, v1, v0]
    let acts (c : Instr) (f : CounterRec → CounterRec) : Prop :=
      ∃ t, exec c s = .next t ∧
        (∀ i : Fin 8, t.ac[i] = if mask.getLsbD i.val then f s.ac[i] else s.ac[i]) ∧
        Answered .service 0x0E tag
          (0x00 :: (List.finRange 8).flatMap fun i =>
            w32 (t.ac[i]).value ++
              [if (t.ac[i]).overflow then 0x01 else 0x00,
               if (t.ac[i]).frozen then 0x00 else 0x01]) s t ∧
        MaskKept .service s t ∧ Keeps [.counters, .ports] s t
    let barred := ∃ i : Fin 8, (s.ac[i]).overflow = true ∧ (s.ac[i]).setup.freezeOnOverflow = true
    acts (.preload .service tag rest) (fun k => { k with value := (v3 ++ v2 ++ v1 ++ v0).toNat }) ∧
    acts (.clear .service tag rest) (fun k => { k with value := 0, counted := false }) ∧
    acts (.clearFlags .service tag rest) (fun k => { k with overflow := false }) ∧
    acts (.freeze .service tag rest) (fun k => { k with frozen := true }) ∧
    (mask = 0 ∨ ¬ barred → acts (.unfreeze .service tag rest) fun k => { k with frozen := false }) ∧
    (mask ≠ 0 → barred →
      ∃ t, exec (.unfreeze .service tag rest) s = .next t ∧
        Answered .service 0x0E tag [0x08] s t ∧ MaskKept .service s t ∧
        Keeps [.ports] s t) ∧
    ∀ action : Byte, 4 < action.toNat →
      ∃ t, exec (.unknownRequest .service 0x0E tag (action :: rest)) s = .next t ∧
        Answered .service 0x0E tag [0x05] s t ∧ MaskKept .service s t ∧ Keeps [.ports] s t

/-! ### The Element Stager (chapter 6) -/

/-- ELEMENT-RELEASE and the lockout timer release a LOCKED-OUT element into service, or OFFLINE while its node
is LOST: the first clears the count of automatic releases, the second raises it up to 3. -/
def Obligations.LockedOutElementReleased : Prop :=
  ∀ (i : SlotNo) (s : State),
    let released (count : Nat) (t : State) : Prop :=
      Staged { s.es with
        elems := updV s.es.elems i fun e =>
          { e with
            lockout := none, lockoutTimer := none, mismatch := 0, autoReleases := count
            state := if (s.link (s.slot i).node).state = .lost then .offline else .inService } } t ∧
      Allocated s.pa t ∧ t.grantsRight ∧ HeatDivided t ∧ LevelsStaged t ∧ OrdersSent s t
    ((s.elem i).state = .lockedOut →
      (∀ tag, s.hasRoom .service →
        ∃ t, exec (.elementRelease .service tag [BitVec.ofNat 8 i.val]) s = .next t ∧
          Answered .service 0x0F tag [0x00] s t ∧ MaskKept .service s t ∧ released 0 t ∧
          Keeps [.power, .elements, .counters, .notices, .links, .ports] s t) ∧
      (due (s.elem i).lockoutTimer s.now = true →
        ∃ t, exec (.lockoutTimerExpiry i) s = .next t ∧
          released (min 3 ((s.elem i).autoReleases + 1)) t ∧
          Keeps [.power, .elements, .counters, .notices, .links] s t)) ∧
    (s.linksSettled →
      ((s.elem i).state ≠ .lockedOut ∨ due (s.elem i).lockoutTimer s.now = false →
        ∃ t, exec (.lockoutTimerExpiry i) s = .next t ∧ Keeps [] s t) ∧
      (∀ tag, s.hasRoom .service → (s.elem i).state ≠ .lockedOut →
        ∃ t, exec (.elementRelease .service tag [BitVec.ofNat 8 i.val]) s = .next t ∧
          Answered .service 0x0F tag [0x08] s t ∧ MaskKept .service s t ∧ Keeps [.ports] s t) ∧
      ∀ tag (b : Byte), s.hasRoom .service → 24 ≤ b.toNat →
        ∃ t, exec (.elementRelease .service tag [b]) s = .next t ∧
          Answered .service 0x0F tag [0x05] s t ∧ MaskKept .service s t ∧ Keeps [.ports] s t)

/-- A beat-slot boundary moves the slot counter, takes changed lengths at the wrap, drives both marks high in
the first slots of a period, and closes the contactor at the head of the closure queue. -/
def Obligations.BeatSlotClosesOneContactor : Prop :=
  ∀ s : State,
    (due s.es.slotTimer s.now = true →
      let wraps := decide (63 ≤ s.es.slotCounter)
      let counter := if wraps then 0 else s.es.slotCounter + 1
      let len := if wraps then s.cfg.slotLength else s.es.slotLength
      let mark := if wraps then s.cfg.markLength else s.es.markLength
      ∃ t, exec .beatSlotBoundary s = .next t ∧
        t.es = { s.es with
          slotCounter := counter, slotLength := len, markLength := mark,
          slotTimer := some (s.now + len), pmf := decide (counter < mark),
          pmr := decide (counter < mark), queue := s.es.queue.tail, elems := t.es.elems } ∧
        (∀ i, t.elem i =
          if s.es.queue.head? = some i then
            { s.elem i with closed := true, closedSince := some s.now, openedSince := none }
          else s.elem i) ∧
        (∀ i, s.es.queue.head? = some i →
          t.ac = (s.signal .contactorClose
            (match (s.slot i).owner with
             | .zone z => some z.val
             | _ => none) 1).ac) ∧
        (s.es.queue = [] → t.ac = s.ac) ∧ OrdersSent s t ∧
        Keeps [.elements, .counters, .notices, .links] s t) ∧
    (due s.es.slotTimer s.now = false → s.linksSettled →
      ∃ t, exec .beatSlotBoundary s = .next t ∧ Keeps [] s t)

/-! ### Characters, replies and timers of the ports (chapter 9) -/

/-- A transmitted reply leaves its queue; a silent port becomes UNLINKED and the other two ports are told;
5 ms without a character, and a frame error, discard the frame in assembly and count it. That a
MASTER_FRAME_ERROR counts with no frame in assembly too is the model's choice (notes/assumptions/11.md). -/
def Obligations.PortEvents : Prop :=
  ∀ (p : Port) (s : State), s.linksSettled →
    let discarded (c : Instr) : Prop :=
      ∃ t, exec c s = .next t ∧
        t.port p = { s.port p with
          receiver := .hunt, frame := [],
          frameErrors := min 65535 ((s.port p).frameErrors + 1) } ∧
        (∀ q, q ≠ p → t.port q = s.port q) ∧ Keeps [.ports] s t
    let quietFor := (s.port p).receiver = .receiving ∧ (s.port p).lastChar + 5 ≤ s.now
    (∃ t, exec (.replyTransmitted p) s = .next t ∧
      t.port p = { s.port p with replies := (s.port p).replies.tail } ∧
      (∀ q, q ≠ p → t.port q = s.port q) ∧ Keeps [.ports] s t) ∧
    (due (s.port p).linkTimer s.now = true →
      ∃ t, exec (.portLinkTimerExpiry p) s = .next t ∧
        t.port p = { s.port p with link := .unlinked, linkTimer := none } ∧
        (∀ q, q ≠ p → (t.port q).quiet = (s.port q).quiet ∧
          (t.port q).notices = (s.port q).notices ||| 0x80000#20) ∧
        Keeps [.ports, .notices] s t) ∧
    (due (s.port p).linkTimer s.now = false →
      ∃ t, exec (.portLinkTimerExpiry p) s = .next t ∧ Keeps [] s t) ∧
    (quietFor → discarded (.masterIntercharTimeout p)) ∧
    (¬ quietFor → ∃ t, exec (.masterIntercharTimeout p) s = .next t ∧ Keeps [] s t) ∧
    discarded (.masterFrameError p)

/-- Reception before a frame is whole: a sync character starts a frame and anything else is dropped in HUNT;
a character of the frame is appended; a missing stop bit, a length above 128 and a wrong check discard
the frame. -/
def Obligations.CharactersAssembleAFrame : Prop :=
  ∀ (p : Port) (ch : Byte) (s : State), s.linksSettled →
    let frame := (s.port p).frame
    let becomes (stop : Bool) (c : PortCtx) : Prop :=
      ∃ t, exec (.masterCharacterReceived p ch stop) s = .next t ∧ t.port p = c ∧
        (∀ q, q ≠ p → t.port q = s.port q) ∧ Keeps [.ports] s t
    let discarded : PortCtx :=
      { s.port p with
        receiver := .hunt, frame := [], frameErrors := min 65535 ((s.port p).frameErrors + 1) }
    let appended : PortCtx := { s.port p with frame := frame ++ [ch], lastChar := s.now }
    ((s.port p).receiver = .hunt →
      (ch = 0xA5 → becomes true
        { s.port p with receiver := .receiving, frame := [ch], lastChar := s.now }) ∧
      (ch ≠ 0xA5 → becomes true (s.port p)) ∧ becomes false (s.port p)) ∧
    ((s.port p).receiver = .receiving →
      becomes false discarded ∧
      (∀ sync, frame = [sync] →
        (ch.toNat ≤ 128 → becomes true appended) ∧ (128 < ch.toNat → becomes true discarded)) ∧
      ∀ sync len rest, frame = sync :: len :: rest →
        (rest.length < len.toNat + 3 → becomes true appended) ∧
        (∀ fields hi, rest = fields ++ [hi] → fields.length = len.toNat + 2 →
          cyclicCheck (len :: fields) ≠ hi ++ ch → becomes true discarded))

/-- The last character of a good frame is the request that the frame carries. -/
def Obligations.LastCharacterDeliversTheRequest : Prop :=
  ∀ (c : Instr) (p : Port) (kind tag ch : Byte) (body : List Byte) (s : State),
    requestOf c = some (p, kind, tag, body) → body.length ≤ 128 →
    (s.port p).receiver = .receiving → (s.port p).frame ++ [ch] = frameBytes kind tag body →
    exec (.masterCharacterReceived p ch true) s = exec c s

/-! ### The Node Link Controller (chapter 7) -/

/-- A valid echo resets the miss run and the silence timer, takes its order and every older one from the
window or counts as late with LATE-ECHO signalled, and records a restart; the applied levels and overheat
flags of the node's elements are recorded, a hot element in service is locked out, and a level that differs
from what the matched order carried three echoes in a row locks its element out. A restart takes the node's
contactors as open; contactors opened within their minimum on-time are counted as FORCED-SHED. That a flag
byte other than 0 is a restart (notes/assumptions/13.md), that the levels of a restart echo stand as
delivered and a comparison goes by the slots that the order carried (notes/assumptions/18.md), is the
model's reading. -/
def Obligations.EchoTaken : Prop :=
  ∀ (n : Node) (tag : Byte) (body : List Byte) (s : State), body.length = 35 →
    let k := s.link n
    let restarted : Bool := body.getD 0 0 != 0
    let hot (o : Nat) : Bool := (body.getD 1 0 ++ body.getD 2 0).getLsbD o
    let level (o : Nat) : Nat := (body.getD (3 + 2 * o) 0 &&& 0x7F#8).toNat
    let phase (o : Nat) : Nat := (body.getD (4 + 2 * o) 0).toNat
    let onNode (i : SlotNo) : Prop := (s.slot i).present = true ∧ (s.slot i).node = n
    ∃ t, exec (.echo n tag body) s = .next t ∧
      (let k' := t.link n
       k'.lastValid = some s.now ∧ k'.silenceTimer = some (s.now + s.cfg.nodeSilence) ∧
       k'.validRun = min 3 (k.validRun + 1) ∧ k'.echoMiss = 0 ∧
       k'.state = (if 3 ≤ k.validRun + 1 then .up else k.state) ∧
       k'.restarts = (if restarted then min 255 (k.restarts + 1) else k.restarts) ∧
       k'.lastRestart = (if restarted then some s.now else k.lastRestart) ∧
       k'.frameErrors = k.frameErrors ∧ k'.errorWindow = k.errorWindow ∧
       (∀ older e newer, k.window = older ++ e :: newer → e.number.val = tag.toNat →
         (∀ x ∈ older, x.number ≠ e.number) →
         (∃ sent, k'.window = newer ++ sent ∧ sent.length ≤ 1) ∧
         k'.lateEchoes = k.lateEchoes ∧ k'.latch = k.latch ∧ Signalled .lateEcho [] s t) ∧
       ((∀ e ∈ k.window, e.number.val ≠ tag.toNat) →
         (∃ sent, k'.window = k.window ++ sent ∧ sent.length ≤ 1) ∧
         k'.lateEchoes = min 65535 (k.lateEchoes + 1) ∧
         k'.latch = { k.latch with late := true } ∧
         Signalled .lateEcho [(some (match n with | .front => 0 | .rear => 1), 1)] s t)) ∧
      (∀ m, m ≠ n → (t.link m).sentFrom (s.link m)) ∧
      (∀ i, onNode i →
        (t.elem i).applied = some (level (s.slot i).output) ∧
        (t.elem i).overheat = hot (s.slot i).output) ∧
      (restarted = true → ∀ i, onNode i → (s.slot i).kind = .contactor →
        (t.elem i).closed = false ∧ (t.elem i).closedSince = none ∧
          (t.elem i).openedSince = some s.now) ∧
      (∀ i, onNode i → (s.elem i).state = .inService → hot (s.slot i).output = true →
        (t.elem i).state = .lockedOut ∧ (t.elem i).lockout = some .overheat ∧
          (t.elem i).closed = false ∧ (t.elem i).duty = 0 ∧ i ∉ t.es.queue ∧
          (t.elem i).lockoutTimer =
            (if (s.elem i).autoReleases < 3 then some (s.now + 300000) else none) ∧
          Raised .elementLockout t) ∧
      (∀ older e newer i c, k.window = older ++ e :: newer → e.number.val = tag.toNat →
        (∀ x ∈ older, x.number ≠ e.number) → restarted = false → onNode i →
        (s.elem i).state = .inService → hot (s.slot i).output = false →
        e.levels.filter (fun l => l.slot == i) = [c] →
        let differs := level (s.slot i).output ≠ c.level ∨
          ((s.slot i).kind = .modulated ∧ phase (s.slot i).output ≠ c.phase)
        (¬ differs → (t.elem i).mismatch = 0 ∧ (t.elem i).state = .inService) ∧
        (differs → (s.elem i).mismatch + 1 < 3 →
          (t.elem i).mismatch = (s.elem i).mismatch + 1 ∧ (t.elem i).state = .inService) ∧
        (differs → 3 ≤ (s.elem i).mismatch + 1 →
          (t.elem i).state = .lockedOut ∧ (t.elem i).lockout = some .mismatch ∧
            (t.elem i).closed = false ∧ (t.elem i).duty = 0 ∧ i ∉ t.es.queue ∧
            Raised .elementLockout t)) ∧
      ((t.link n).state = k.state → s.heldFits →
        let short := s.nodeSlots n |>.filter s.closedShort
        let taken (i : SlotNo) : Bool := restarted && (s.slot i).kind == .contactor
        Signalled .forcedShed
          (shedOnce (short.filter taken).length ++
            shedOnce (short.filter fun i => !taken i && (s.elem i).state == .inService &&
              (t.elem i).state == .lockedOut).length) s t) ∧
      (∀ i, ¬ onNode i →
        (t.elem i).state = (s.elem i).state ∧ (t.elem i).lockout = (s.elem i).lockout ∧
          (t.elem i).applied = (s.elem i).applied ∧
          (t.elem i).mismatch = (s.elem i).mismatch) ∧
      Allocated s.pa t ∧ Keeps [.power, .elements, .counters, .notices, .links] s t

/-- A sample frame enters each value that it carries: in range it becomes the newest sample, FRESH, and the
value is the mean of the window for a zone; out of range the record only takes its rejection. To follows
the front sensor, else the rear, else the fallback. -/
def Obligations.SampleFrameEntersValues : Prop :=
  ∀ (n : Node) (body : List Byte) (s : State), body.length = 11 →
    let field (k : Nat) : Int := (body.getD (2 * k) 0 ++ body.getD (2 * k + 1) 0).toInt
    let rh : Nat := (body.getD 10 0).toNat
    ∃ t, exec (.sampleFrame n body) s = .next t ∧
      (let entered (v : ValueId) (zone : Bool) (x : Int) (lo hi : Int) : Prop :=
        let r := s.value v
        let w := (if r.window.length < 4 then r.window else r.window.tail) ++ [x]
        t.value v =
          if lo ≤ x ∧ x ≤ hi then
            { value := some (if zone then w.sum.tdiv w.length else x)
              window := if zone then w else []
              lastValid := some s.now, quality := .fresh, rejection := .none }
          else
            { r with rejection :=
                if x = -32768 then .notFitted
                else if x = 32767 then .sensorFault
                else .outOfRange }
       match n with
       | .front =>
         entered (.air 0) true (field 0) (-400) 800 ∧ entered (.air 1) true (field 1) (-400) 800 ∧
           entered (.air 2) true (field 2) (-400) 800 ∧
           entered (.outside .front) false (field 3) (-500) 600 ∧
           entered .glass false (field 4) (-500) 800 ∧
           (t.value .humidity =
             if rh = 255 then { s.value .humidity with rejection := .sensorFault }
             else
               { value := some (min rh 100 : Nat), window := [],
                 lastValid := some s.now, quality := .fresh, rejection := .none }) ∧
           ∀ v ∈ [ValueId.air 3, .air 4, .air 5, .outside .rear], t.value v = s.value v
       | .rear =>
         entered (.air 3) true (field 0) (-400) 800 ∧ entered (.air 4) true (field 1) (-400) 800 ∧
           entered (.air 5) true (field 2) (-400) 800 ∧
           entered (.outside .rear) false (field 3) (-500) 600 ∧
           ∀ v ∈ [ValueId.air 0, .air 1, .air 2, .outside .front, .glass, .humidity],
             t.value v = s.value v) ∧
      (t.st.outsideTemp, t.st.outsideSource) =
        (match (t.value (.outside .front)).usable, (t.value (.outside .rear)).usable with
         | some x, _ => (x, .front)
         | none, some x => (x, .rear)
         | none, none => (s.cfg.fallbackOutside, .fallback)) ∧
      t.st.firstOutside =
        (s.st.firstOutside || decide (-500 ≤ field 3 ∧ field 3 ≤ 600)) ∧
      (t.link n).lastValid = some s.now ∧
      (t.link n).silenceTimer = some (s.now + s.cfg.nodeSilence) ∧
      (t.link n).validRun = min 3 ((s.link n).validRun + 1) ∧
      (t.link n).state = (if 3 ≤ (s.link n).validRun + 1 then .up else (s.link n).state) ∧
      (t.link n).echoMiss =
        (if 3 ≤ (s.link n).validRun + 1 ∧ (s.link n).state ≠ .up then 0
         else (s.link n).echoMiss) ∧
      (∀ m, m ≠ n → (t.link m).sentFrom (s.link m)) ∧
      Keeps [.samples, .zones, .screen, .doors, .overrides, .power, .elements, .links, .counters,
        .notices, .free] s t

/-- The valid frame that brings the run of valid frames to 3 makes its link UP, whether it is a sample frame
or an echo. A LOST node returns: its held draw and the timer end, its contactors are open since the lost
time, its OFFLINE elements are back in service unless the echo itself locks them out, LOCKED-OUT elements
stay, NODE-BACK is raised, and a pass shares the heat under clamps taken anew. A DOWN link brings a pass and
no notice. That the lost time stands for a node that restarted meanwhile (notes/assumptions/40.md), and the
restart time where this echo carries the flag, as any byte but 0 does (notes/assumptions/13.md,
notes/assumptions/18.md), is the model's reading. The premises are invariants: the states of the AIR
entries, demands at their clamps, and orders that name each slot once. -/
def Obligations.ThirdFrameBringsTheLinkUp : Prop :=
  ∀ (n : Node) (s : State), 2 ≤ (s.link n).validRun → s.airEntriesRight →
    AllClamped s → (s.link n).slotsDistinct →
    let k := s.link n
    let onNode (i : SlotNo) : Prop := (s.slot i).present = true ∧ (s.slot i).node = n
    let up (t : State) : Prop :=
      (t.link n).state = .up ∧ (t.link n).validRun = 3 ∧
        (k.state ≠ .up → (t.link n).echoMiss = 0) ∧
        (k.state ≠ .lost → (t.link n).heldDraw = k.heldDraw ∧ (t.link n).heldTimer = k.heldTimer ∧
          ∀ p, t.holdsNotice p .nodeBack = s.holdsNotice p .nodeBack) ∧
        (t.link n).lostTime = k.lostTime
    let back (since : Option Nat) (t : State) : Prop :=
      (t.link n).heldDraw = 0 ∧ (t.link n).heldTimer = none ∧ Raised .nodeBack t ∧
        AllClamped t ∧ t.grantsRight ∧
        ∀ i, onNode i →
          ((s.slot i).kind = .contactor →
            (t.elem i).closed = false ∧ (t.elem i).closedSince = none ∧
              (t.elem i).openedSince = since) ∧
          ((s.elem i).state = .lockedOut →
            (t.elem i).state = .lockedOut ∧ (t.elem i).lockout = (s.elem i).lockout)
    (∀ body : List Byte, body.length = 11 →
      ∃ t, exec (.sampleFrame n body) s = .next t ∧ up t ∧
        (k.state = .lost →
          back k.lostTime t ∧
            (∀ i, onNode i → (s.slot i).kind = .contactor → (t.elem i).applied = some 0) ∧
            ∀ i, (t.elem i).state =
              if (s.slot i).present = true ∧ (s.slot i).node = n ∧ (s.elem i).state = .offline then
                .inService
              else (s.elem i).state) ∧
        (k.state = .down → t.grantsRight) ∧
        (k.state ≠ .lost → Staged s.es t) ∧
        (k.state ≠ .up → (∀ m, (t.member m).posted = (s.member m).posted) →
          HeatDivided t)) ∧
    ∀ (tag : Byte) (body : List Byte), body.length = 35 →
      let restarted : Bool := body.getD 0 0 != 0
      let hot (i : SlotNo) : Bool :=
        (body.getD 1 0 ++ body.getD 2 0).getLsbD (s.slot i).output
      ∃ t, exec (.echo n tag body) s = .next t ∧ up t ∧
        (k.state = .lost →
          back (if restarted then some s.now else k.lostTime) t ∧
            ∀ i, onNode i → (s.elem i).state = .offline →
              if hot i then
                (t.elem i).state = .lockedOut ∧ (t.elem i).lockout = some .overheat
              else
                (t.elem i).state = .inService ∨
                  ((t.elem i).state = .lockedOut ∧ (t.elem i).lockout = some .mismatch ∧
                    restarted = false ∧ 2 ≤ (s.elem i).mismatch ∧
                    ∃ e ∈ k.window, e.number.val = tag.toNat)) ∧
        (k.state ≠ .up → t.grantsRight ∧ HeatDivided t)

/-- A front frame brings the Screen Controller's computation: the dew estimate and the margin, the film
latch, the moves among CLEAR, WATCH and DEMIST, FAILSAFE and the exit from it, the exit hold and the
glass-target hold; a rear frame brings FAILSAFE the acting mode of a changed To; and the frame with the
first outside value brings the cold-start decision. An entry into demisting raises DEMIST-ACTIVE and signals
DEMIST-ENTRY. A changed state or mode takes the outputs of R52 and posts, as a changed latch does. Whether
the first outside value or the computation is taken first is a free value, and both holds that can follow
are allowed (notes/assumptions/2.md). That one computation of a front frame covers its quality changes and a
changed To, so that the screen moves at most once and signals at most one DEMIST-ENTRY, and FAILSAFE for an
exit without a margin, is the model's reading (notes/assumptions/20.md). -/
def Obligations.FrameMovesTheScreen : Prop :=
  ∀ (n : Node) (body : List Byte) (s : State), body.length = 11 →
    ∃ t, exec (.sampleFrame n body) s = .next t ∧
      (let c := s.cfg
       let rh := t.value .humidity
       let tg := t.value .glass
       let outside := t.st.outsideTemp
       let cab : Int × TcabSource :=
         match (t.value (.air 0)).value with
         | some tz => (tz, .zone)
         | none => ((s.zone 0).ts, .setpoint)
       let dew : Option Int :=
         match rh.value, tg.value with
         | some x, some _ => some (cab.1 - 2 * (100 - x))
         | _, _ => none
       let margin : Option Int :=
         match dew, tg.value with
         | some td, some x => some (x - td)
         | _, _ => none
       let latch : Bool :=
         match tg.value with
         | some x =>
           if c.glassLimit < x then true
           else if x ≤ c.glassLimit - 50 then false
           else s.sc.filmLatch
         | none => s.sc.filmLatch
       let here := (s.sc.state, s.sc.acting)
       let failsafe : ScreenState × Option ActingMode :=
         (.failsafe, some (if outside < 50 then .demist else .clear))
       let byMargin (m : Int) : ScreenState × Option ActingMode :=
         (if c.mWatch ≤ m then .clear else if c.mOn ≤ m then .watch else .demist, none)
       let missing := tg.quality = .missing ∨ rh.quality = .missing
       let fresh := tg.quality = .fresh ∧ rh.quality = .fresh
       let first := s.st.firstOutside = false ∧ t.st.firstOutside = true ∧
         s.sc.coldDecision = .pending
       let cold := first ∧ c.coldStart = true ∧ outside < 0 ∧ s.sc.state ≠ .defrost
       let next : ScreenState × Option ActingMode :=
         if cold then (.defrost, none)
         else
           match n, s.sc.state with
           | .front, .defrost => here
           | .front, .failsafe => if fresh then margin.elim failsafe byMargin else failsafe
           | .front, .demist => if missing then failsafe else here
           | .front, .clear => if missing then failsafe else margin.elim here byMargin
           | .front, .watch => if missing then failsafe else margin.elim here byMargin
           | .rear, .failsafe => if outside = s.st.outsideTemp then here else failsafe
           | .rear, _ => here
       let running (x : Timer) (span : Nat) : Timer :=
         match x with
         | some e => some e
         | none => some (s.now + span)
       let exitHold : Timer :=
         if cold then none
         else if next ≠ here then (if next.1 = .demist then s.sc.exitHold else none)
         else
           match n, s.sc.state, margin with
           | .front, .demist, some m =>
             if c.mOff ≤ m then running s.sc.exitHold (c.demistHold * 1000) else none
           | _, _, _ => s.sc.exitHold
       let glassHold (x : Timer) : Timer :=
         match tg.value with
         | some g => if c.glassTarget ≤ g then running x 60000 else none
         | none => none
       let glassHolds : List Timer :=
         if cold then
           (match n with
            | .front => [none, glassHold none]
            | .rear => [none])
         else if n = .front ∧ s.sc.state = .defrost then [glassHold s.sc.glassHold]
         else [s.sc.glassHold]
       let computed : ScreenRec :=
         match n with
         | .front =>
           { s.sc with
             tcab := cab.1, tcabSource := cab.2, rh := rh.value, tg := tg.value
             tgQuality := tg.quality, rhQuality := rh.quality, dew := dew, margin := margin
             mWatch := c.mWatch, mOn := c.mOn, filmLatch := latch }
         | .rear => s.sc
       let decided : ScreenRec :=
         { computed with coldDecision := if first then .taken else s.sc.coldDecision }
       let begun : ScreenRec :=
         if cold then
           { decided with
             origin := .coldStart, duration := c.defrostDuration
             defrostTimer := some (s.now + c.defrostDuration * 1000) }
         else decided
       let demisting (x : ScreenState × Option ActingMode) : Prop :=
         x.1 = .demist ∨ x = (.failsafe, some .demist)
       (∃ hold ∈ glassHolds,
         let timed : ScreenRec := { begun with exitHold := exitHold, glassHold := hold }
         t.sc =
           if next ≠ here then timed.taking c next.1 next.2
           else if computed.filmLatch ≠ s.sc.filmLatch then timed.reposting c
           else timed) ∧
       (if next ≠ here ∨ computed.filmLatch ≠ s.sc.filmLatch then ScreenPosted t
        else ScreenNotPosted s t) ∧
       (next ≠ here → ScreenHanded t) ∧
       (¬ cold → demisting next → ¬ demisting here →
         Raised .demistActive t ∧ Signalled .demistEntry [(none, 1)] s t) ∧
       (¬ cold → ¬ demisting next ∨ demisting here → Signalled .demistEntry [] s t) ∧
       (cold → ∃ entered ∈ [[], [(none, 1)]], Signalled .demistEntry entered s t) ∧
       (¬ cold → t.sc.airRequest = s.sc.airRequest →
         ∀ z, z ≠ 0 → (t.zone z).blower = (s.zone z).blower)) ∧
      EntriesKept [] s t ∧
      Keeps [.samples, .zones, .screen, .doors, .overrides, .power, .elements, .links, .counters,
        .notices, .free] s t

/-- A frame error ends the run of valid frames, is counted and latched in its class, and the eighth error
within 1000 ms raises LINK-ERRORS and empties the window of errors. A frame that has a gap over 5 ms or
other characters than its length names has the class LENGTH, one with a bad check CHECK, one of a kind other
than ECHO and SAMPLE KIND, one with another length than its kind's LENGTH, and any other is the valid frame
itself. The order of these tests is the model's choice (notes/assumptions/13.md). -/
def Obligations.NodeFramesJudged : Prop :=
  ∀ (n : Node) (s : State), s.linksSettled →
    let k := s.link n
    let recent := k.errorWindow.filter (fun m => decide (s.now < m + 1000)) ++ [s.now]
    let counted (c : Instr) (latch : LinkErrors) : Prop :=
      ∃ t, exec c s = .next t ∧
        t.link n = { k with
          frameErrors := min 65535 (k.frameErrors + 1), validRun := 0, latch := latch
          errorWindow := if 8 ≤ recent.length then [] else recent } ∧
        (∀ m, m ≠ n → t.link m = s.link m) ∧
        t.ac = (s.signal .nodeFrameError (some n.code) 1).ac ∧
        (8 ≤ recent.length → Raised .linkErrors t) ∧ Keeps [.counters, .notices, .links] s t
    let badCheck (c : Instr) : Prop := counted c { k.latch with check := true }
    let badLength (c : Instr) : Prop := counted c { k.latch with length := true }
    let badKind (c : Instr) : Prop := counted c { k.latch with kind := true }
    (∀ frame : LinkFrame,
      let command := Instr.nodeFrameError n frame
      let chars : List Byte := frame.map Prod.fst
      let full := (∀ c ∈ frame.tail, c.2 ≤ 5) ∧ chars.length = (chars.getD 1 0).toNat + 6
      (¬ full → badLength command) ∧
      ∀ (sync len kind tag hi lo : Byte) (body : List Byte), full →
        chars = sync :: len :: kind :: tag :: (body ++ [hi, lo]) →
        let good := hi ++ lo = cyclicCheck (len :: kind :: tag :: body)
        (¬ good → badCheck command) ∧
        (good → kind ≠ 0x41 → kind ≠ 0x42 → badKind command) ∧
        (good → kind = 0x41 → body.length ≠ 35 → badLength command) ∧
        (good → kind = 0x42 → body.length ≠ 11 → badLength command) ∧
        (good → kind = 0x41 → body.length = 35 → exec command s = exec (.echo n tag body) s) ∧
        (good → kind = 0x42 → body.length = 11 →
          exec command s = exec (.sampleFrame n body) s)) ∧
    (∀ (tag : Byte) (body : List Byte), body.length ≠ 35 → badLength (.echo n tag body)) ∧
    ∀ body : List Byte, body.length ≠ 11 → badLength (.sampleFrame n body)

/-- An order that is due is sent at once where the window has room and the spacing timer stands, and otherwise
waits; the spacing timer sends a waiting order; the held draw of a lost node ends with its timer. That the
interval timer stands still while its order waits is the model's reading (notes/assumptions/15.md). -/
def Obligations.OrderTimersSend : Prop :=
  ∀ (n : Node) (s : State), s.linksSettled →
    let k := s.link n
    let room := k.window.length < s.cfg.windowSize
    let becomes (c : Instr) (k' : LinkCtx) : Prop :=
      ∃ t, exec c s = .next t ∧ t.link n = k' ∧ (∀ m, m ≠ n → t.link m = s.link m) ∧
        Keeps [.links] s t
    let sent : LinkCtx := { k with
      window := k.window ++
        [{ number := k.nextNumber, sentAt := s.now, timeout := s.now + s.cfg.echoTimeout,
           levels := s.carriedLevels n }]
      nextNumber := k.nextNumber + 1, pendingMarker := false,
      spacingTimer := some (s.now + 20), orderTimer := some (s.now + s.cfg.orderInterval),
      lastOrder := frameBytes 0x40 (BitVec.ofNat 8 k.nextNumber.val) (s.orderBody n) }
    (due k.orderTimer s.now = true →
      (room → k.spacingTimer = none → becomes (.orderIntervalExpiry n) sent) ∧
      (¬ room ∨ k.spacingTimer ≠ none →
        becomes (.orderIntervalExpiry n) { k with orderTimer := none, pendingMarker := true })) ∧
    (due k.orderTimer s.now = false → becomes (.orderIntervalExpiry n) k) ∧
    (due k.spacingTimer s.now = true →
      (k.pendingMarker = true → room → becomes (.spacingTimerExpiry n) sent) ∧
      (k.pendingMarker = false ∨ ¬ room →
        becomes (.spacingTimerExpiry n) { k with spacingTimer := none })) ∧
    (due k.spacingTimer s.now = false → becomes (.spacingTimerExpiry n) k) ∧
    (due k.heldTimer s.now = true →
      becomes (.heldDrawTimerExpiry n) { k with heldDraw := 0, heldTimer := none }) ∧
    (due k.heldTimer s.now = false → becomes (.heldDrawTimerExpiry n) k)

/-- An order carries the node's whole output state: two bytes for each of 16 heater outputs, three zone
blowers, two curtain blowers, the damper and the flap. -/
def Obligations.OrderCarriesOutputState : Prop :=
  ∀ (n : Node) (s : State),
    (s.orderBody n).length = 39 ∧
    (∀ i : SlotNo, (s.slot i).present = true → (s.slot i).node = n → (s.slot i).output < 16 →
      (∀ j : SlotNo, (s.slot j).present = true → (s.slot j).node = n →
        (s.slot j).output = (s.slot i).output → j = i) →
      let o := (s.slot i).output
      if (s.slot i).kind = .contactor then
        (s.orderBody n)[2 * o]? = some (if (s.elem i).closed then 0x01 else 0x00) ∧
        (s.orderBody n)[2 * o + 1]? = some 0x00
      else
        (s.orderBody n)[2 * o]? = some (BitVec.ofNat 8 (128 + (s.elem i).duty)) ∧
        (s.orderBody n)[2 * o + 1]? = some (BitVec.ofNat 8 (s.slot i).phase)) ∧
    (∀ o < 16, (∀ j : SlotNo, (s.slot j).present = true → (s.slot j).node = n →
        (s.slot j).output ≠ o) →
      (s.orderBody n)[2 * o]? = some 0x00 ∧ (s.orderBody n)[2 * o + 1]? = some 0x00) ∧
    (∀ j : Fin 3, (s.orderBody n)[32 + j.val]? = some (BitVec.ofNat 8
      (s.zone (match n with
        | .front => ⟨j.val, by omega⟩
        | .rear => ⟨3 + j.val, by omega⟩)).blower)) ∧
    (∀ j : Fin 2, (s.orderBody n)[35 + j.val]? = some (BitVec.ofNat 8
      (s.door (match n with
        | .front => ⟨j.val, by omega⟩
        | .rear => ⟨2 + j.val, by omega⟩)).curtainBlower.code)) ∧
    (s.orderBody n)[37]? = some (BitVec.ofNat 8 (s.air n).commanded) ∧
    (s.orderBody n)[38]? = some (match n with
      | .front => BitVec.ofNat 8 s.sc.flap.code
      | .rear => 0x00)

/-- An echo timeout removes its order, counts the miss and latches it; the fifth miss in a row of an UP link
makes it LOST. The silence timer stops; an UP link becomes LOST: the draws of its elements are held for 3 s,
its elements in service go OFFLINE ordered off, NODE-LOST is raised, and FORCED-SHED is signalled once with
the number of its contactors within their minimum on-time. -/
def Obligations.MissesAndSilenceLoseANode : Prop :=
  (∀ (n : Node) (o : OrderNo) (s : State),
     let k := s.link n
     let miss := min 255 (k.echoMiss + 1)
     let expired := ∃ e ∈ k.window, e.number = o ∧ e.timeout ≤ s.now
     let counted : LinkCtx := { k with
       window := k.window.filter fun e => e.number != o, echoMiss := miss
       latch := { k.latch with timeout := true } }
     (expired → k.state ≠ .up ∨ miss < 5 →
       ∃ t, exec (.echoTimeout n o) s = .next t ∧ (t.link n).sentFrom counted ∧
         (∀ m, m ≠ n → (t.link m).sentFrom (s.link m)) ∧
         t.ac = (s.signal .echoMiss (some n.code) 1).ac ∧
         Keeps [.counters, .notices, .links] s t) ∧
     (expired → k.state = .up → 5 ≤ miss →
       ∃ t, exec (.echoTimeout n o) s = .next t ∧
         (t.link n).sentFrom { counted with
           state := .lost, lostTime := some s.now, validRun := 0,
           heldDraw := s.drawOf (s.nodeSlots n), heldTimer := some (s.now + 3000) } ∧
         (∀ m, m ≠ n → (t.link m).sentFrom (s.link m)) ∧
         Raised .nodeLost t ∧ Allocated s.pa t ∧ t.grantsRight ∧ HeatDivided t ∧
         LevelsStaged t ∧ LossCounted n s t ∧
         Keeps [.power, .elements, .counters, .notices, .links] s t) ∧
     (¬ expired → s.linksSettled →
       ∃ t, exec (.echoTimeout n o) s = .next t ∧ Keeps [] s t)) ∧
  ∀ (n : Node) (s : State),
    let k := s.link n
    let leaves (i : SlotNo) : Bool :=
      (s.slot i).present && (s.slot i).node == n && (s.elem i).state == .inService
    (due k.silenceTimer s.now = true → k.state = .up →
      ∃ t, exec (.silenceTimerExpiry n) s = .next t ∧
        (t.link n).sentFrom { k with
          silenceTimer := none, state := .lost, lostTime := some s.now, validRun := 0,
          heldDraw := s.drawOf (s.nodeSlots n), heldTimer := some (s.now + 3000) } ∧
        (∀ m, m ≠ n → (t.link m).sentFrom (s.link m)) ∧
        Staged { s.es with
          elems := Vector.ofFn fun i : SlotNo =>
            if leaves i then { s.elem i with state := .offline, lockout := none }
            else s.elem i } t ∧
        (∀ i, leaves i = true →
          (t.elem i).closed = false ∧ (t.elem i).duty = 0 ∧ i ∉ t.es.queue ∧
            t.absorbed i = 0) ∧
        Raised .nodeLost t ∧ Allocated s.pa t ∧ t.grantsRight ∧ HeatDivided t ∧
         LevelsStaged t ∧ LossCounted n s t ∧
        Keeps [.power, .elements, .counters, .notices, .links] s t) ∧
    (due k.silenceTimer s.now = true → k.state ≠ .up → s.linksSettled →
      ∃ t, exec (.silenceTimerExpiry n) s = .next t ∧
        t.link n = { k with silenceTimer := none } ∧ (∀ m, m ≠ n → t.link m = s.link m) ∧
        Keeps [.links] s t) ∧
    (due k.silenceTimer s.now = false → s.linksSettled →
      ∃ t, exec (.silenceTimerExpiry n) s = .next t ∧ Keeps [] s t)

/-! ### The Sample Table, the zones and the screen (chapters 1 to 3) -/

/-- A record that has had no valid sample for the hold time becomes STALE and for the degrade time MISSING,
without its value and window; To is selected anew, and a MISSING glass temperature or humidity puts the
screen into FAILSAFE outside a defrost. -/
def Obligations.ValuesAge : Prop :=
  ∀ (v : ValueId) (s : State),
    let r := s.value v
    let aged (c : Instr) (r' : ValueRec) : Prop :=
      ∃ t, exec c s = .next t ∧ t.value v = r' ∧ (∀ u, u ≠ v → t.value u = s.value u) ∧
        (t.st.outsideTemp, t.st.outsideSource) =
          (match (t.value (.outside .front)).usable, (t.value (.outside .rear)).usable with
           | some x, _ => (x, .front)
           | none, some x => (x, .rear)
           | none, none => (s.cfg.fallbackOutside, .fallback)) ∧
        t.st.firstOutside = s.st.firstOutside ∧
        (v = .glass → t.sc.tgQuality = r'.quality) ∧
        (v = .humidity → t.sc.rhQuality = r'.quality) ∧
        (v = .glass ∨ v = .humidity → r'.quality = .missing → s.sc.state ≠ .defrost →
          t.sc.state = .failsafe) ∧
        Keeps [.samples, .zones, .screen, .doors, .overrides, .power, .elements, .links,
          .counters, .notices] s t
    let older (secs : Nat) : Prop := ∃ m, r.lastValid = some m ∧ m + secs * 1000 ≤ s.now
    let holdEnds := r.quality = .fresh ∧ older s.cfg.sensorHold ∧
      s.cfg.sensorHold < s.cfg.sensorDegrade
    let degradeEnds := r.quality ≠ .missing ∧ older s.cfg.sensorDegrade
    (holdEnds → aged (.holdTimerExpiry v) { r with quality := .stale }) ∧
    (degradeEnds →
      aged (.degradeTimerExpiry v) { r with quality := .missing, value := none, window := [] }) ∧
    (s.linksSettled →
      (¬ holdEnds → ∃ t, exec (.holdTimerExpiry v) s = .next t ∧ Keeps [] s t) ∧
      (¬ degradeEnds → ∃ t, exec (.degradeTimerExpiry v) s = .next t ∧ Keeps [] s t))

/-- The regulation pass computes both section airs and every zone from its inputs, posts the quantised demands
as base parts, and orders the blowers. That a pass whose timer is not due does nothing is the model's choice
(notes/assumptions/7.md). -/
def Obligations.RegulationPassComputes : Prop :=
  ∀ s : State,
    (due s.zr.passTimer s.now = true →
      let c := s.cfg
      ∃ t, exec .regulationPass s = .next t ∧
        t.zr.passTimer = some (s.now + c.regPeriod * 1000) ∧
        (∀ n,
          let normal := if s.st.outsideTemp < 0 then c.freshCold else c.freshMild
          let base := (s.airValue n).getD normal
          (t.air n).normalFresh = normal ∧
          (t.air n).commanded =
            match n with
            | .front => if s.sc.airRequest then max c.demistFloor base else base
            | .rear => base) ∧
        (∀ z : ZoneNo,
          let old := s.zone z
          let r := t.zone z
          let v := s.value (.air z)
          let avail := s.available z
          let fresh := (t.air (if z.val < 3 then .front else .rear)).commanded
          let dt := r.ts - s.st.outsideTemp
          let feed := if 0 < dt then (c.kf + c.kv * fresh / 100) * dt.toNat / 64 else 0
          let short := decide (s.baseGrant z < old.lastPosted)
          let shares := if r.quantHb = 0 ∨ avail = 0 then 0
            else if 100 * r.quantHb < 30 * avail then 1
            else if 100 * r.quantHb < 70 * avail then 2
            else 3
          let ratings := (s.contactors z).map fun i => (s.slot i).rating
          r.reasons =
            { off := s.zoneOff z, gap := s.pa.line != .present,
              missing := v.quality == .missing, stale := v.quality == .stale,
              door := s.mappedDoorIn z [.open] } ∧
          r.state = r.reasons.rank ∧
          r.ts = (match s.zoneShift z with
            | some x => max 50 (min 300 (c.baseSetpoint[z] + x))
            | none => c.baseSetpoint[z]) ∧
          r.tz = v.value ∧ r.err = v.value.map (fun tz => max (-200) (min 200 (r.ts - tz))) ∧
          (s.zoneOff z = true →
            r.prop = 0 ∧ r.integ = 0 ∧ r.iTerm = 0 ∧ r.feed = 0 ∧ r.hb = 0 ∧ r.quantHb = 0 ∧
              r.lowerStop = true ∧ r.upperStop = false) ∧
          (s.zoneOff z = false →
            r.feed = feed ∧ r.lastBaseGrant = s.baseGrant z ∧ r.shortfall = short ∧
            (v.value = none →
              r.prop = 0 ∧ r.integ = 0 ∧ r.iTerm = 0 ∧
                r.hb = min avail (feed + c.fallbackBias)) ∧
            (∀ e, r.err = some e →
              r.prop = (c.kp * e).tdiv 32 ∧
              r.integ =
                (if r.state = .normal ∧ ¬ (0 < e ∧ (old.upperStop = true ∨ short = true)) ∧
                    ¬ (e < 0 ∧ old.lowerStop = true) then
                  max (-((c.imax : Int) * 256)) (min ((c.imax : Int) * 256) (old.integ + c.ki * e))
                else old.integ) ∧
              r.iTerm = r.integ.tdiv 256 ∧
              (r.hb : Int) = max 0 (min (avail : Int) ((feed : Int) + r.prop + r.iTerm))) ∧
            r.upperStop =
              (decide (r.hb = avail) || match s.zoneCap z with
                | some cap => decide (cap ≤ r.hb)
                | none => false) ∧
            r.lowerStop = decide (r.hb = 0) ∧
            ((s.modulated z).isSome = true → r.quantHb = r.hb) ∧
            (s.modulated z = none →
              r.quantHb ≤ r.hb ∧ (∃ l : List Nat, l.Sublist ratings ∧ l.sum = r.quantHb) ∧
                ∀ l : List Nat, l.Sublist ratings → l.sum ≤ r.hb → l.sum ≤ r.quantHb)) ∧
          r.lastPosted = r.quantHb ∧ (t.member (baseMember z)).posted = r.quantHb ∧
          r.blower =
            (if z.val = 0 ∧ s.sc.airRequest = true then 3
             else if s.zoneOff z then 0
             else if s.mappedDoorIn z [.open, .trailing] then max 2 shares
             else shares)) ∧
        ((∃ z, (s.value (.air z)).quality = .missing ∧ (s.zone z).reasons.missing = false) →
          Raised .zoneDegraded t) ∧
        (∀ m, baseZone? m = none → (t.member m).posted = (s.member m).posted) ∧
        Staged s.es t ∧ OrdersSent s t ∧
        Keeps [.zones, .power, .elements, .counters, .notices, .links] s t) ∧
    (due s.zr.passTimer s.now = false → s.linksSettled →
      ∃ t, exec .regulationPass s = .next t ∧ Keeps [] s t)

/-- The exit hold leaves DEMIST for WATCH; the defrost timer and the glass-target hold end the defrost cycle
with their cause, its entry leaves the Override Table with no other, DEFROST-DONE is raised, and the state
is FAILSAFE without glass temperature or humidity and otherwise the one that the margin dictates under the
thresholds of the last computation. FAILSAFE for a cycle that ends without a margin is the model's reading
(notes/assumptions/20.md). -/
def Obligations.ScreenTimersEndTheirState : Prop :=
  ∀ s : State,
    let ends (c : Instr) (cause : DefrostEnd) : Prop :=
      ∃ t, exec c s = .next t ∧
        t.sc.lastEnd = cause ∧ t.sc.origin = .none ∧ t.sc.defrostTimer = none ∧
        t.sc.glassHold = none ∧ Raised .defrostDone t ∧
        t.sc.state =
          (if s.sc.tgQuality = .missing ∨ s.sc.rhQuality = .missing then .failsafe
           else match s.sc.margin with
             | none => .failsafe
             | some m =>
               if s.sc.mWatch ≤ m then .clear else if s.sc.mOn ≤ m then .watch
               else .demist) ∧
        t.sc.acting =
          (if t.sc.state = .failsafe then
            some (if s.st.outsideTemp < 50 then .demist else .clear) else none) ∧
        (s.sc.origin = .placed → (∀ e f x y, s.entry e = some x → s.entry f = some y →
            x.kind = .defrost → y.kind = .defrost → e = f) →
          ∀ e x, t.entry e = some x → x.kind ≠ .defrost) ∧
        (∀ e, (∀ x, s.entry e = some x → x.kind ≠ .defrost) →
          (t.entry e).map Entry.plain = (s.entry e).map Entry.plain) ∧
        (s.sc.origin ≠ .placed → EntriesKept [] s t) ∧
        Keeps [.zones, .screen, .overrides, .power, .elements, .links, .counters, .notices] s t
    let nothing (c : Instr) : Prop := ∃ t, exec c s = .next t ∧ Keeps [] s t
    (s.sc.state = .demist → due s.sc.exitHold s.now = true →
      ∃ t, exec .demistExitHoldExpiry s = .next t ∧
        t.sc = { s.sc with
          state := .watch, acting := none, flap := .mix, airRequest := false, exitHold := none,
          filmPosted := 0, partPosted := 0 } ∧
        (t.member filmMember).posted = 0 ∧ (t.member screenPartMember).posted = 0 ∧
        (s.sc.airRequest = true → ∀ e x, t.entry e = some x → x.suspended = false) ∧
        EntriesKept [] s t ∧
        Keeps [.zones, .screen, .overrides, .power, .elements, .links, .counters, .notices] s t) ∧
    (s.sc.state = .defrost → due s.sc.defrostTimer s.now = true →
      ends .defrostTimerExpiry .duration) ∧
    (s.sc.state = .defrost → due s.sc.glassHold s.now = true →
      ends .glassTargetHoldExpiry .glassTarget) ∧
    (s.linksSettled →
      (s.sc.state ≠ .demist ∨ due s.sc.exitHold s.now = false →
        nothing .demistExitHoldExpiry) ∧
      (s.sc.state ≠ .defrost ∨ due s.sc.defrostTimer s.now = false →
        nothing .defrostTimerExpiry) ∧
      (s.sc.state ≠ .defrost ∨ due s.sc.glassHold s.now = false →
        nothing .glassTargetHoldExpiry))

/-! ### Inputs and doors (chapter 4) -/

/-- A changed raw level starts the filter anew; without a filter width the filtered level of an enabled
input follows at once, and its doors with it. A filtered door input that becomes open opens its door, one
that becomes closed starts its trailing with the decay of its dwell, and REL arms the closed doors with
their pre-boost and releases the armed ones; a door that has moved makes the DDC post, and an opening is
counted. That REL arms a door whose DR input is UNSETTLED (notes/assumptions/35.md), and that the decay
times are absent in ARMED (notes/assumptions/37.md), is the model's. -/
def Obligations.InputChangesMoveDoors : Prop :=
  (∀ (i : InputNo) (l : PinLevel) (s : State),
     ((s.input i).raw = l → s.linksSettled →
       ∃ t, exec (.inputRawChange i l) s = .next t ∧ Keeps [] s t) ∧
     ((s.input i).raw ≠ l →
       (i = lineInput → 0 < s.cfg.dropFilter ∧ 0 < s.cfg.restoreFilter) →
       (i ≠ lineInput → (s.cfg.inputs[i]).width ≠ 0) → s.linksSettled →
       ∃ t, exec (.inputRawChange i l) s = .next t ∧
         t.input i = { s.input i with raw := l, stableSince := s.now } ∧
         (∀ j, j ≠ i → t.input j = s.input j) ∧ Keeps [.inputs] s t) ∧
     ∀ k : Fin 5, i = doorInputNo k → (s.input i).raw ≠ l → (s.cfg.inputs[i]).width = 0 →
       let sense : Filtered :=
         if (s.cfg.inputs[i]).activeHigh = decide (l = .high) then .active else .inactive
       let settles : Prop := (s.cfg.inputs[i]).enable = true ∧ (s.input i).filtered ≠ sense
       (settles → s.doorsRight →
         ∃ t, exec (.inputRawChange i l) s = .next t ∧
           t.input i = { raw := l, stableSince := s.now, filtered := sense } ∧
           (∀ j, j ≠ i → t.input j = s.input j) ∧ DoorsMoved k sense s t ∧
           Keeps [.inputs, .doors, .zones, .power, .elements, .links, .counters, .notices] s t) ∧
       (¬ settles → s.linksSettled →
         ∃ t, exec (.inputRawChange i l) s = .next t ∧
           t.input i = { s.input i with raw := l, stableSince := s.now } ∧
           (∀ j, j ≠ i → t.input j = s.input j) ∧ Keeps [.inputs] s t)) ∧
  ∀ (i : Fin 5) (s : State),
    let input := doorInputNo i
    (s.filterDue input = true → s.doorsRight →
      ∃ t, exec (.doorInputFilterExpiry i) s = .next t ∧
        t.input input = { s.input input with filtered := s.sense input } ∧
        (∀ j, j ≠ input → t.input j = s.input j) ∧ DoorsMoved i (s.sense input) s t ∧
        Keeps [.inputs, .doors, .zones, .power, .elements, .links, .counters, .notices] s t) ∧
    (s.filterDue input = false → s.linksSettled →
      ∃ t, exec (.doorInputFilterExpiry i) s = .next t ∧ Keeps [] s t)

/-- The held limit makes an OPEN door HELD with half its boost; the trailing time turns the curtain off; the
decay brings the level to 0; a door whose trailing time and decay have both ended leaves TRAILING. A door
that has moved, and a curtain heat that the trailing time has ended, make the DDC post. That the dwell is
kept after TRAILING (notes/assumptions/24.md), and the decay times absent in ARMED
(notes/assumptions/37.md), is the model's. The door tick takes the levels anew: the pre-boost of an ARMED
door, half the boost of a HELD one, and the decayed level of a TRAILING one, and every curtain by the table
of R82; it posts while a door is ARMED, HELD or TRAILING. A whole second of an opening is signalled to the
counters. -/
def Obligations.DoorTimersAndTicks : Prop :=
  (∀ (d : DoorNo) (s : State),
     let r := s.door d
     let nothing (c : Instr) : Prop := ∃ t, exec c s = .next t ∧ Keeps [] s t
     let others (t : State) : Prop :=
       ∀ e, e ≠ d → t.door e = { s.door e with contribution := (t.door e).contribution }
     let becomes (r' : DoorRec) (t : State) : Prop :=
       t.door d = { s.withCurtain d r' with contribution := (t.door d).contribution }
     let left : DoorRec := { r with
       openStart := none, trailingTimer := none, decayTimer := none, decayTime := none
       decayRemaining := none }
     let leaves (c : Instr) : Prop :=
       ∃ t, exec c s = .next t ∧
         (if s.relActive then becomes { left with state := .armed, level := s.preBoostOf d } t
          else becomes { left with state := .closed, level := 0 } t) ∧
         others t ∧ DoorsPosted t ∧
         Keeps [.doors, .zones, .power, .elements, .links, .counters, .notices] s t
     (r.state = .open → due r.heldTimer s.now = true →
       ∃ t, exec (.heldTimerExpiry d) s = .next t ∧
         becomes { r with state := .held, level := s.cfg.bd[d] / 2, heldTimer := none } t ∧
         Raised .doorHeld t ∧ others t ∧ DoorsPosted t ∧
         Keeps [.doors, .zones, .power, .elements, .links, .counters, .notices] s t) ∧
     (r.state = .trailing → due r.trailingTimer s.now = true → r.decayTimer ≠ none →
       ∃ t, exec (.trailingTimerExpiry d) s = .next t ∧
         becomes { r with trailingTimer := none } t ∧ (t.door d).curtainHeat = 0 ∧
         (t.door d).curtainBlower = .off ∧ others t ∧
         (r.curtainHeat ≠ 0 → DoorsPosted t) ∧
         (r.curtainHeat = 0 → DoorsNotPosted s t ∧ Keeps [.doors, .links] s t) ∧
         Keeps [.doors, .power, .elements, .links, .counters, .notices] s t) ∧
     (r.state = .trailing → due r.trailingTimer s.now = true → r.decayTimer = none →
       leaves (.trailingTimerExpiry d)) ∧
     (r.state = .trailing → due r.decayTimer s.now = true → r.trailingTimer ≠ none →
       s.linksSettled →
       ∃ t, exec (.decayEnd d) s = .next t ∧
         t.door d = { r with decayRemaining := some 0, level := 0, decayTimer := none } ∧
         (∀ e, e ≠ d → t.door e = s.door e) ∧ Keeps [.doors] s t) ∧
     (r.state = .trailing → due r.decayTimer s.now = true → r.trailingTimer = none →
       leaves (.decayEnd d)) ∧
     (s.linksSettled →
       (r.state ≠ .open ∨ due r.heldTimer s.now = false → nothing (.heldTimerExpiry d)) ∧
       (r.state ≠ .trailing ∨ due r.trailingTimer s.now = false →
         nothing (.trailingTimerExpiry d)) ∧
       (r.state ≠ .trailing ∨ due r.decayTimer s.now = false → nothing (.decayEnd d)))) ∧
  ∀ s : State,
    let posting (d : DoorNo) : Prop :=
      (s.door d).state = .armed ∨ (s.door d).state = .held ∨ (s.door d).state = .trailing
    (due s.ddc.tick s.now = true →
      ∃ t, exec .doorTick s = .next t ∧ t.ddc.tick = some (s.now + 250) ∧
        (∀ d : DoorNo,
          let r := s.door d
          let ticked : DoorRec := { r with
            level :=
              match r.state with
              | .closed => r.level
              | .armed => s.preBoostOf d
              | .open => r.level
              | .held => s.cfg.bd[d] / 2
              | .trailing =>
                match r.decayTimer with
                | some e => r.vclose.getD 0 * (e - s.now) / r.decayTime.getD 0
                | none => r.level
            decayRemaining :=
              match r.state, r.decayTimer with
              | .trailing, some e => some (e - s.now)
              | _, _ => r.decayRemaining }
          t.door d = { s.withCurtain d ticked with contribution := (t.door d).contribution }) ∧
        ((∃ d, posting d) → DoorsPosted t) ∧
        ((∀ d, ¬ posting d) → DoorsNotPosted s t ∧ Keeps [.doors, .links] s t) ∧
        Keeps [.doors, .power, .elements, .links, .counters, .notices] s t) ∧
    (due s.ddc.tick s.now = false → s.linksSettled →
      ∃ t, exec .doorTick s = .next t ∧ Keeps [] s t) ∧
    ∀ d : DoorNo, s.linksSettled →
      let r := s.door d
      let next := (r.secondsCounted + 1) * 1000
      let reached := ∃ m, r.openStart = some m ∧ m + next ≤ s.now ∧ next ≤ 600000
      (reached →
        ∃ t, exec (.doorOpenSecond d) s = .next t ∧
          t.door d = { r with secondsCounted := r.secondsCounted + 1 } ∧
          (∀ e, e ≠ d → t.door e = s.door e) ∧ t.ddc.tick = s.ddc.tick ∧
          t.ac = (s.signal .doorOpenSecond (some d.val) 1).ac ∧
          Keeps [.doors, .counters, .notices] s t) ∧
      (¬ reached → ∃ t, exec (.doorOpenSecond d) s = .next t ∧ Keeps [] s t)

/-! ### The division of heat (R104 to R106) -/

/-- The class grants: each class in turn reserves what it holds, or the least of its demand, its quota and
what the reserves above it and the held draws below it leave; what the reserves leave is shared in the same
order. Where the held draws fit the budget and no class asks for less than it holds, every class gets at
least what it holds and at most what it asks for, and together they get the budget or all they ask for. The
largest-remainder division gives out exactly the amount: each part gets its rounded share, and the units
left over go to the larger remainders, among equal ones to the lower position. A pass divides the heat so,
in the order SCREEN, CAB, DOOR, SALOON, and within a class in the order of the member numbers. -/
def Obligations.GrantsAreDividedWhole : Prop :=
  (∀ (budget : Nat) (asks : List ClassAsk),
    let r := reserves budget asks
    let g := classGrants budget asks
    r.length = asks.length ∧ g.length = asks.length ∧
    (∀ (i : Nat) (h : i < asks.length),
      let free := budget - (r.take i).sum - ((asks.drop (i + 1)).map (·.held)).sum
      ∃ x, r[i]? = some x ∧
        x = max asks[i].held (min asks[i].demand (min asks[i].quota free)) ∧
        g[i]? = some (x + min (asks[i].demand - x)
          (budget - r.sum - ((g.take i).sum - (r.take i).sum)))) ∧
    ((asks.map (·.held)).sum ≤ budget → (∀ a ∈ asks, a.held ≤ a.demand) →
      g.sum = min budget (asks.map (·.demand)).sum ∧
        ∀ (i : Nat) (h : i < asks.length), ∃ x, g[i]? = some x ∧
          asks[i].held ≤ x ∧ x ≤ asks[i].demand)) ∧
  (∀ (x : Nat) (ws : List Nat), x ≤ ws.sum →
    (divide x ws).length = ws.length ∧ (divide x ws).sum = x ∧
      ∀ (i : Nat) (h : i < ws.length),
        let rest (k : Nat) : Nat := x * ws.getD k 0 % ws.sum
        let units := x - (ws.map fun w => x * w / ws.sum).sum
        let before := (List.range ws.length).filter fun k =>
          decide (rest i < rest k ∨ (rest k = rest i ∧ k < i))
        ∃ y, (divide x ws)[i]? = some y ∧
          y = x * ws[i] / ws.sum + (if before.length < units then 1 else 0) ∧
          x * ws[i] / ws.sum ≤ y ∧ y ≤ x * ws[i] / ws.sum + 1 ∧ y ≤ ws[i]) ∧
  ∀ s : State, due s.pa.allocTimer s.now = true →
    ∃ t, exec .allocationTimerExpiry s = .next t ∧ t.budget = s.budget ∧ HeatDivided t ∧
      (s.totalHeld ≤ s.budget → ∀ m, (t.member m).held =
        match baseZone? m with
        | some z => s.heldDraw z
        | none => 0)
end

