-- ==== Sys2Proof/Laws/State.lean ====
section
/-! SUPPORT. What each update of State leaves and what it writes: one lemma per field per update, so that no
proof unfolds a record update. -/

namespace Sys2Proof.Machine

variable (s : State)

/-! ### State.modPort -/

@[simp] theorem State.modPort_now (p : Port) (f : PortCtx → PortCtx) : (s.modPort p f).now = s.now := rfl
@[simp] theorem State.modPort_st (p : Port) (f : PortCtx → PortCtx) : (s.modPort p f).st = s.st := rfl
@[simp] theorem State.modPort_zr (p : Port) (f : PortCtx → PortCtx) : (s.modPort p f).zr = s.zr := rfl
@[simp] theorem State.modPort_sc (p : Port) (f : PortCtx → PortCtx) : (s.modPort p f).sc = s.sc := rfl
@[simp] theorem State.modPort_ic (p : Port) (f : PortCtx → PortCtx) : (s.modPort p f).ic = s.ic := rfl
@[simp] theorem State.modPort_ddc (p : Port) (f : PortCtx → PortCtx) : (s.modPort p f).ddc = s.ddc := rfl
@[simp] theorem State.modPort_ot (p : Port) (f : PortCtx → PortCtx) : (s.modPort p f).ot = s.ot := rfl
@[simp] theorem State.modPort_pa (p : Port) (f : PortCtx → PortCtx) : (s.modPort p f).pa = s.pa := rfl
@[simp] theorem State.modPort_es (p : Port) (f : PortCtx → PortCtx) : (s.modPort p f).es = s.es := rfl
@[simp] theorem State.modPort_nlc (p : Port) (f : PortCtx → PortCtx) : (s.modPort p f).nlc = s.nlc := rfl
@[simp] theorem State.modPort_ac (p : Port) (f : PortCtx → PortCtx) : (s.modPort p f).ac = s.ac := rfl
@[simp] theorem State.modPort_cs (p : Port) (f : PortCtx → PortCtx) : (s.modPort p f).cs = s.cs := rfl
@[simp] theorem State.modPort_freeCount (p : Port) (f : PortCtx → PortCtx) : (s.modPort p f).freeCount = s.freeCount := rfl
@[simp] theorem State.modPort_pending (p : Port) (f : PortCtx → PortCtx) : (s.modPort p f).pending = s.pending := rfl

/-! ### State.modLink -/

@[simp] theorem State.modLink_now (n : Node) (f : LinkCtx → LinkCtx) : (s.modLink n f).now = s.now := rfl
@[simp] theorem State.modLink_st (n : Node) (f : LinkCtx → LinkCtx) : (s.modLink n f).st = s.st := rfl
@[simp] theorem State.modLink_zr (n : Node) (f : LinkCtx → LinkCtx) : (s.modLink n f).zr = s.zr := rfl
@[simp] theorem State.modLink_sc (n : Node) (f : LinkCtx → LinkCtx) : (s.modLink n f).sc = s.sc := rfl
@[simp] theorem State.modLink_ic (n : Node) (f : LinkCtx → LinkCtx) : (s.modLink n f).ic = s.ic := rfl
@[simp] theorem State.modLink_ddc (n : Node) (f : LinkCtx → LinkCtx) : (s.modLink n f).ddc = s.ddc := rfl
@[simp] theorem State.modLink_ot (n : Node) (f : LinkCtx → LinkCtx) : (s.modLink n f).ot = s.ot := rfl
@[simp] theorem State.modLink_pa (n : Node) (f : LinkCtx → LinkCtx) : (s.modLink n f).pa = s.pa := rfl
@[simp] theorem State.modLink_es (n : Node) (f : LinkCtx → LinkCtx) : (s.modLink n f).es = s.es := rfl
@[simp] theorem State.modLink_ac (n : Node) (f : LinkCtx → LinkCtx) : (s.modLink n f).ac = s.ac := rfl
@[simp] theorem State.modLink_cs (n : Node) (f : LinkCtx → LinkCtx) : (s.modLink n f).cs = s.cs := rfl
@[simp] theorem State.modLink_mpu (n : Node) (f : LinkCtx → LinkCtx) : (s.modLink n f).mpu = s.mpu := rfl
@[simp] theorem State.modLink_freeCount (n : Node) (f : LinkCtx → LinkCtx) : (s.modLink n f).freeCount = s.freeCount := rfl
@[simp] theorem State.modLink_pending (n : Node) (f : LinkCtx → LinkCtx) : (s.modLink n f).pending = s.pending := rfl

/-! ### State.modValue -/

@[simp] theorem State.modValue_now (v : ValueId) (f : ValueRec → ValueRec) : (s.modValue v f).now = s.now := rfl
@[simp] theorem State.modValue_zr (v : ValueId) (f : ValueRec → ValueRec) : (s.modValue v f).zr = s.zr := rfl
@[simp] theorem State.modValue_sc (v : ValueId) (f : ValueRec → ValueRec) : (s.modValue v f).sc = s.sc := rfl
@[simp] theorem State.modValue_ic (v : ValueId) (f : ValueRec → ValueRec) : (s.modValue v f).ic = s.ic := rfl
@[simp] theorem State.modValue_ddc (v : ValueId) (f : ValueRec → ValueRec) : (s.modValue v f).ddc = s.ddc := rfl
@[simp] theorem State.modValue_ot (v : ValueId) (f : ValueRec → ValueRec) : (s.modValue v f).ot = s.ot := rfl
@[simp] theorem State.modValue_pa (v : ValueId) (f : ValueRec → ValueRec) : (s.modValue v f).pa = s.pa := rfl
@[simp] theorem State.modValue_es (v : ValueId) (f : ValueRec → ValueRec) : (s.modValue v f).es = s.es := rfl
@[simp] theorem State.modValue_nlc (v : ValueId) (f : ValueRec → ValueRec) : (s.modValue v f).nlc = s.nlc := rfl
@[simp] theorem State.modValue_ac (v : ValueId) (f : ValueRec → ValueRec) : (s.modValue v f).ac = s.ac := rfl
@[simp] theorem State.modValue_cs (v : ValueId) (f : ValueRec → ValueRec) : (s.modValue v f).cs = s.cs := rfl
@[simp] theorem State.modValue_mpu (v : ValueId) (f : ValueRec → ValueRec) : (s.modValue v f).mpu = s.mpu := rfl
@[simp] theorem State.modValue_freeCount (v : ValueId) (f : ValueRec → ValueRec) : (s.modValue v f).freeCount = s.freeCount := rfl
@[simp] theorem State.modValue_pending (v : ValueId) (f : ValueRec → ValueRec) : (s.modValue v f).pending = s.pending := rfl

/-! ### State.modZone -/

@[simp] theorem State.modZone_now (z : ZoneNo) (f : ZoneRec → ZoneRec) : (s.modZone z f).now = s.now := rfl
@[simp] theorem State.modZone_st (z : ZoneNo) (f : ZoneRec → ZoneRec) : (s.modZone z f).st = s.st := rfl
@[simp] theorem State.modZone_sc (z : ZoneNo) (f : ZoneRec → ZoneRec) : (s.modZone z f).sc = s.sc := rfl
@[simp] theorem State.modZone_ic (z : ZoneNo) (f : ZoneRec → ZoneRec) : (s.modZone z f).ic = s.ic := rfl
@[simp] theorem State.modZone_ddc (z : ZoneNo) (f : ZoneRec → ZoneRec) : (s.modZone z f).ddc = s.ddc := rfl
@[simp] theorem State.modZone_ot (z : ZoneNo) (f : ZoneRec → ZoneRec) : (s.modZone z f).ot = s.ot := rfl
@[simp] theorem State.modZone_pa (z : ZoneNo) (f : ZoneRec → ZoneRec) : (s.modZone z f).pa = s.pa := rfl
@[simp] theorem State.modZone_es (z : ZoneNo) (f : ZoneRec → ZoneRec) : (s.modZone z f).es = s.es := rfl
@[simp] theorem State.modZone_nlc (z : ZoneNo) (f : ZoneRec → ZoneRec) : (s.modZone z f).nlc = s.nlc := rfl
@[simp] theorem State.modZone_ac (z : ZoneNo) (f : ZoneRec → ZoneRec) : (s.modZone z f).ac = s.ac := rfl
@[simp] theorem State.modZone_cs (z : ZoneNo) (f : ZoneRec → ZoneRec) : (s.modZone z f).cs = s.cs := rfl
@[simp] theorem State.modZone_mpu (z : ZoneNo) (f : ZoneRec → ZoneRec) : (s.modZone z f).mpu = s.mpu := rfl
@[simp] theorem State.modZone_freeCount (z : ZoneNo) (f : ZoneRec → ZoneRec) : (s.modZone z f).freeCount = s.freeCount := rfl
@[simp] theorem State.modZone_pending (z : ZoneNo) (f : ZoneRec → ZoneRec) : (s.modZone z f).pending = s.pending := rfl

/-! ### State.mapZones -/

@[simp] theorem State.mapZones_now (f : ZoneRec → ZoneRec) : (s.mapZones f).now = s.now := by simp only [State.mapZones]
@[simp] theorem State.mapZones_st (f : ZoneRec → ZoneRec) : (s.mapZones f).st = s.st := by simp only [State.mapZones]
@[simp] theorem State.mapZones_sc (f : ZoneRec → ZoneRec) : (s.mapZones f).sc = s.sc := by simp only [State.mapZones]
@[simp] theorem State.mapZones_ic (f : ZoneRec → ZoneRec) : (s.mapZones f).ic = s.ic := by simp only [State.mapZones]
@[simp] theorem State.mapZones_ddc (f : ZoneRec → ZoneRec) : (s.mapZones f).ddc = s.ddc := by simp only [State.mapZones]
@[simp] theorem State.mapZones_ot (f : ZoneRec → ZoneRec) : (s.mapZones f).ot = s.ot := by simp only [State.mapZones]
@[simp] theorem State.mapZones_pa (f : ZoneRec → ZoneRec) : (s.mapZones f).pa = s.pa := by simp only [State.mapZones]
@[simp] theorem State.mapZones_es (f : ZoneRec → ZoneRec) : (s.mapZones f).es = s.es := by simp only [State.mapZones]
@[simp] theorem State.mapZones_nlc (f : ZoneRec → ZoneRec) : (s.mapZones f).nlc = s.nlc := by simp only [State.mapZones]
@[simp] theorem State.mapZones_ac (f : ZoneRec → ZoneRec) : (s.mapZones f).ac = s.ac := by simp only [State.mapZones]
@[simp] theorem State.mapZones_cs (f : ZoneRec → ZoneRec) : (s.mapZones f).cs = s.cs := by simp only [State.mapZones]
@[simp] theorem State.mapZones_mpu (f : ZoneRec → ZoneRec) : (s.mapZones f).mpu = s.mpu := by simp only [State.mapZones]
@[simp] theorem State.mapZones_freeCount (f : ZoneRec → ZoneRec) : (s.mapZones f).freeCount = s.freeCount := by simp only [State.mapZones]
@[simp] theorem State.mapZones_pending (f : ZoneRec → ZoneRec) : (s.mapZones f).pending = s.pending := by simp only [State.mapZones]

/-! ### State.modScreen -/

@[simp] theorem State.modScreen_now (f : ScreenRec → ScreenRec) : (s.modScreen f).now = s.now := rfl
@[simp] theorem State.modScreen_st (f : ScreenRec → ScreenRec) : (s.modScreen f).st = s.st := rfl
@[simp] theorem State.modScreen_zr (f : ScreenRec → ScreenRec) : (s.modScreen f).zr = s.zr := rfl
@[simp] theorem State.modScreen_ic (f : ScreenRec → ScreenRec) : (s.modScreen f).ic = s.ic := rfl
@[simp] theorem State.modScreen_ddc (f : ScreenRec → ScreenRec) : (s.modScreen f).ddc = s.ddc := rfl
@[simp] theorem State.modScreen_ot (f : ScreenRec → ScreenRec) : (s.modScreen f).ot = s.ot := rfl
@[simp] theorem State.modScreen_pa (f : ScreenRec → ScreenRec) : (s.modScreen f).pa = s.pa := rfl
@[simp] theorem State.modScreen_es (f : ScreenRec → ScreenRec) : (s.modScreen f).es = s.es := rfl
@[simp] theorem State.modScreen_nlc (f : ScreenRec → ScreenRec) : (s.modScreen f).nlc = s.nlc := rfl
@[simp] theorem State.modScreen_ac (f : ScreenRec → ScreenRec) : (s.modScreen f).ac = s.ac := rfl
@[simp] theorem State.modScreen_cs (f : ScreenRec → ScreenRec) : (s.modScreen f).cs = s.cs := rfl
@[simp] theorem State.modScreen_mpu (f : ScreenRec → ScreenRec) : (s.modScreen f).mpu = s.mpu := rfl
@[simp] theorem State.modScreen_freeCount (f : ScreenRec → ScreenRec) : (s.modScreen f).freeCount = s.freeCount := rfl
@[simp] theorem State.modScreen_pending (f : ScreenRec → ScreenRec) : (s.modScreen f).pending = s.pending := rfl

/-! ### State.modInput -/

@[simp] theorem State.modInput_now (i : InputNo) (f : InputRec → InputRec) : (s.modInput i f).now = s.now := rfl
@[simp] theorem State.modInput_st (i : InputNo) (f : InputRec → InputRec) : (s.modInput i f).st = s.st := rfl
@[simp] theorem State.modInput_zr (i : InputNo) (f : InputRec → InputRec) : (s.modInput i f).zr = s.zr := rfl
@[simp] theorem State.modInput_sc (i : InputNo) (f : InputRec → InputRec) : (s.modInput i f).sc = s.sc := rfl
@[simp] theorem State.modInput_ddc (i : InputNo) (f : InputRec → InputRec) : (s.modInput i f).ddc = s.ddc := rfl
@[simp] theorem State.modInput_ot (i : InputNo) (f : InputRec → InputRec) : (s.modInput i f).ot = s.ot := rfl
@[simp] theorem State.modInput_pa (i : InputNo) (f : InputRec → InputRec) : (s.modInput i f).pa = s.pa := rfl
@[simp] theorem State.modInput_es (i : InputNo) (f : InputRec → InputRec) : (s.modInput i f).es = s.es := rfl
@[simp] theorem State.modInput_nlc (i : InputNo) (f : InputRec → InputRec) : (s.modInput i f).nlc = s.nlc := rfl
@[simp] theorem State.modInput_ac (i : InputNo) (f : InputRec → InputRec) : (s.modInput i f).ac = s.ac := rfl
@[simp] theorem State.modInput_cs (i : InputNo) (f : InputRec → InputRec) : (s.modInput i f).cs = s.cs := rfl
@[simp] theorem State.modInput_mpu (i : InputNo) (f : InputRec → InputRec) : (s.modInput i f).mpu = s.mpu := rfl
@[simp] theorem State.modInput_freeCount (i : InputNo) (f : InputRec → InputRec) : (s.modInput i f).freeCount = s.freeCount := rfl
@[simp] theorem State.modInput_pending (i : InputNo) (f : InputRec → InputRec) : (s.modInput i f).pending = s.pending := rfl

/-! ### State.modDoor -/

@[simp] theorem State.modDoor_now (d : DoorNo) (f : DoorRec → DoorRec) : (s.modDoor d f).now = s.now := rfl
@[simp] theorem State.modDoor_st (d : DoorNo) (f : DoorRec → DoorRec) : (s.modDoor d f).st = s.st := rfl
@[simp] theorem State.modDoor_zr (d : DoorNo) (f : DoorRec → DoorRec) : (s.modDoor d f).zr = s.zr := rfl
@[simp] theorem State.modDoor_sc (d : DoorNo) (f : DoorRec → DoorRec) : (s.modDoor d f).sc = s.sc := rfl
@[simp] theorem State.modDoor_ic (d : DoorNo) (f : DoorRec → DoorRec) : (s.modDoor d f).ic = s.ic := rfl
@[simp] theorem State.modDoor_ot (d : DoorNo) (f : DoorRec → DoorRec) : (s.modDoor d f).ot = s.ot := rfl
@[simp] theorem State.modDoor_pa (d : DoorNo) (f : DoorRec → DoorRec) : (s.modDoor d f).pa = s.pa := rfl
@[simp] theorem State.modDoor_es (d : DoorNo) (f : DoorRec → DoorRec) : (s.modDoor d f).es = s.es := rfl
@[simp] theorem State.modDoor_nlc (d : DoorNo) (f : DoorRec → DoorRec) : (s.modDoor d f).nlc = s.nlc := rfl
@[simp] theorem State.modDoor_ac (d : DoorNo) (f : DoorRec → DoorRec) : (s.modDoor d f).ac = s.ac := rfl
@[simp] theorem State.modDoor_cs (d : DoorNo) (f : DoorRec → DoorRec) : (s.modDoor d f).cs = s.cs := rfl
@[simp] theorem State.modDoor_mpu (d : DoorNo) (f : DoorRec → DoorRec) : (s.modDoor d f).mpu = s.mpu := rfl
@[simp] theorem State.modDoor_freeCount (d : DoorNo) (f : DoorRec → DoorRec) : (s.modDoor d f).freeCount = s.freeCount := rfl
@[simp] theorem State.modDoor_pending (d : DoorNo) (f : DoorRec → DoorRec) : (s.modDoor d f).pending = s.pending := rfl

/-! ### State.modMember -/

@[simp] theorem State.modMember_now (m : Fin 18) (f : MemberRec → MemberRec) : (s.modMember m f).now = s.now := rfl
@[simp] theorem State.modMember_st (m : Fin 18) (f : MemberRec → MemberRec) : (s.modMember m f).st = s.st := rfl
@[simp] theorem State.modMember_zr (m : Fin 18) (f : MemberRec → MemberRec) : (s.modMember m f).zr = s.zr := rfl
@[simp] theorem State.modMember_sc (m : Fin 18) (f : MemberRec → MemberRec) : (s.modMember m f).sc = s.sc := rfl
@[simp] theorem State.modMember_ic (m : Fin 18) (f : MemberRec → MemberRec) : (s.modMember m f).ic = s.ic := rfl
@[simp] theorem State.modMember_ddc (m : Fin 18) (f : MemberRec → MemberRec) : (s.modMember m f).ddc = s.ddc := rfl
@[simp] theorem State.modMember_ot (m : Fin 18) (f : MemberRec → MemberRec) : (s.modMember m f).ot = s.ot := rfl
@[simp] theorem State.modMember_es (m : Fin 18) (f : MemberRec → MemberRec) : (s.modMember m f).es = s.es := rfl
@[simp] theorem State.modMember_nlc (m : Fin 18) (f : MemberRec → MemberRec) : (s.modMember m f).nlc = s.nlc := rfl
@[simp] theorem State.modMember_ac (m : Fin 18) (f : MemberRec → MemberRec) : (s.modMember m f).ac = s.ac := rfl
@[simp] theorem State.modMember_cs (m : Fin 18) (f : MemberRec → MemberRec) : (s.modMember m f).cs = s.cs := rfl
@[simp] theorem State.modMember_mpu (m : Fin 18) (f : MemberRec → MemberRec) : (s.modMember m f).mpu = s.mpu := rfl
@[simp] theorem State.modMember_freeCount (m : Fin 18) (f : MemberRec → MemberRec) : (s.modMember m f).freeCount = s.freeCount := rfl
@[simp] theorem State.modMember_pending (m : Fin 18) (f : MemberRec → MemberRec) : (s.modMember m f).pending = s.pending := rfl

/-! ### State.tabMembers -/

@[simp] theorem State.tabMembers_now (f : Fin 18 → MemberRec → MemberRec) : (s.tabMembers f).now = s.now := by simp only [State.tabMembers]
@[simp] theorem State.tabMembers_st (f : Fin 18 → MemberRec → MemberRec) : (s.tabMembers f).st = s.st := by simp only [State.tabMembers]
@[simp] theorem State.tabMembers_zr (f : Fin 18 → MemberRec → MemberRec) : (s.tabMembers f).zr = s.zr := by simp only [State.tabMembers]
@[simp] theorem State.tabMembers_sc (f : Fin 18 → MemberRec → MemberRec) : (s.tabMembers f).sc = s.sc := by simp only [State.tabMembers]
@[simp] theorem State.tabMembers_ic (f : Fin 18 → MemberRec → MemberRec) : (s.tabMembers f).ic = s.ic := by simp only [State.tabMembers]
@[simp] theorem State.tabMembers_ddc (f : Fin 18 → MemberRec → MemberRec) : (s.tabMembers f).ddc = s.ddc := by simp only [State.tabMembers]
@[simp] theorem State.tabMembers_ot (f : Fin 18 → MemberRec → MemberRec) : (s.tabMembers f).ot = s.ot := by simp only [State.tabMembers]
@[simp] theorem State.tabMembers_es (f : Fin 18 → MemberRec → MemberRec) : (s.tabMembers f).es = s.es := by simp only [State.tabMembers]
@[simp] theorem State.tabMembers_nlc (f : Fin 18 → MemberRec → MemberRec) : (s.tabMembers f).nlc = s.nlc := by simp only [State.tabMembers]
@[simp] theorem State.tabMembers_ac (f : Fin 18 → MemberRec → MemberRec) : (s.tabMembers f).ac = s.ac := by simp only [State.tabMembers]
@[simp] theorem State.tabMembers_cs (f : Fin 18 → MemberRec → MemberRec) : (s.tabMembers f).cs = s.cs := by simp only [State.tabMembers]
@[simp] theorem State.tabMembers_mpu (f : Fin 18 → MemberRec → MemberRec) : (s.tabMembers f).mpu = s.mpu := by simp only [State.tabMembers]
@[simp] theorem State.tabMembers_freeCount (f : Fin 18 → MemberRec → MemberRec) : (s.tabMembers f).freeCount = s.freeCount := by simp only [State.tabMembers]
@[simp] theorem State.tabMembers_pending (f : Fin 18 → MemberRec → MemberRec) : (s.tabMembers f).pending = s.pending := by simp only [State.tabMembers]

/-! ### State.modClass -/

@[simp] theorem State.modClass_now (c : HeatClass) (f : ClassRec → ClassRec) : (s.modClass c f).now = s.now := rfl
@[simp] theorem State.modClass_st (c : HeatClass) (f : ClassRec → ClassRec) : (s.modClass c f).st = s.st := rfl
@[simp] theorem State.modClass_zr (c : HeatClass) (f : ClassRec → ClassRec) : (s.modClass c f).zr = s.zr := rfl
@[simp] theorem State.modClass_sc (c : HeatClass) (f : ClassRec → ClassRec) : (s.modClass c f).sc = s.sc := rfl
@[simp] theorem State.modClass_ic (c : HeatClass) (f : ClassRec → ClassRec) : (s.modClass c f).ic = s.ic := rfl
@[simp] theorem State.modClass_ddc (c : HeatClass) (f : ClassRec → ClassRec) : (s.modClass c f).ddc = s.ddc := rfl
@[simp] theorem State.modClass_ot (c : HeatClass) (f : ClassRec → ClassRec) : (s.modClass c f).ot = s.ot := rfl
@[simp] theorem State.modClass_es (c : HeatClass) (f : ClassRec → ClassRec) : (s.modClass c f).es = s.es := rfl
@[simp] theorem State.modClass_nlc (c : HeatClass) (f : ClassRec → ClassRec) : (s.modClass c f).nlc = s.nlc := rfl
@[simp] theorem State.modClass_ac (c : HeatClass) (f : ClassRec → ClassRec) : (s.modClass c f).ac = s.ac := rfl
@[simp] theorem State.modClass_cs (c : HeatClass) (f : ClassRec → ClassRec) : (s.modClass c f).cs = s.cs := rfl
@[simp] theorem State.modClass_mpu (c : HeatClass) (f : ClassRec → ClassRec) : (s.modClass c f).mpu = s.mpu := rfl
@[simp] theorem State.modClass_freeCount (c : HeatClass) (f : ClassRec → ClassRec) : (s.modClass c f).freeCount = s.freeCount := rfl
@[simp] theorem State.modClass_pending (c : HeatClass) (f : ClassRec → ClassRec) : (s.modClass c f).pending = s.pending := rfl

/-! ### State.modSurplus -/

@[simp] theorem State.modSurplus_now (f : SurplusRec → SurplusRec) : (s.modSurplus f).now = s.now := rfl
@[simp] theorem State.modSurplus_st (f : SurplusRec → SurplusRec) : (s.modSurplus f).st = s.st := rfl
@[simp] theorem State.modSurplus_zr (f : SurplusRec → SurplusRec) : (s.modSurplus f).zr = s.zr := rfl
@[simp] theorem State.modSurplus_sc (f : SurplusRec → SurplusRec) : (s.modSurplus f).sc = s.sc := rfl
@[simp] theorem State.modSurplus_ic (f : SurplusRec → SurplusRec) : (s.modSurplus f).ic = s.ic := rfl
@[simp] theorem State.modSurplus_ddc (f : SurplusRec → SurplusRec) : (s.modSurplus f).ddc = s.ddc := rfl
@[simp] theorem State.modSurplus_ot (f : SurplusRec → SurplusRec) : (s.modSurplus f).ot = s.ot := rfl
@[simp] theorem State.modSurplus_es (f : SurplusRec → SurplusRec) : (s.modSurplus f).es = s.es := rfl
@[simp] theorem State.modSurplus_nlc (f : SurplusRec → SurplusRec) : (s.modSurplus f).nlc = s.nlc := rfl
@[simp] theorem State.modSurplus_ac (f : SurplusRec → SurplusRec) : (s.modSurplus f).ac = s.ac := rfl
@[simp] theorem State.modSurplus_cs (f : SurplusRec → SurplusRec) : (s.modSurplus f).cs = s.cs := rfl
@[simp] theorem State.modSurplus_mpu (f : SurplusRec → SurplusRec) : (s.modSurplus f).mpu = s.mpu := rfl
@[simp] theorem State.modSurplus_freeCount (f : SurplusRec → SurplusRec) : (s.modSurplus f).freeCount = s.freeCount := rfl
@[simp] theorem State.modSurplus_pending (f : SurplusRec → SurplusRec) : (s.modSurplus f).pending = s.pending := rfl

/-! ### State.setAbsorbed -/

@[simp] theorem State.setAbsorbed_now (i : SlotNo) (a : Nat) : (s.setAbsorbed i a).now = s.now := by simp [State.setAbsorbed]
@[simp] theorem State.setAbsorbed_st (i : SlotNo) (a : Nat) : (s.setAbsorbed i a).st = s.st := by simp [State.setAbsorbed]
@[simp] theorem State.setAbsorbed_zr (i : SlotNo) (a : Nat) : (s.setAbsorbed i a).zr = s.zr := by simp [State.setAbsorbed]
@[simp] theorem State.setAbsorbed_sc (i : SlotNo) (a : Nat) : (s.setAbsorbed i a).sc = s.sc := by simp [State.setAbsorbed]
@[simp] theorem State.setAbsorbed_ic (i : SlotNo) (a : Nat) : (s.setAbsorbed i a).ic = s.ic := by simp [State.setAbsorbed]
@[simp] theorem State.setAbsorbed_ddc (i : SlotNo) (a : Nat) : (s.setAbsorbed i a).ddc = s.ddc := by simp [State.setAbsorbed]
@[simp] theorem State.setAbsorbed_ot (i : SlotNo) (a : Nat) : (s.setAbsorbed i a).ot = s.ot := by simp [State.setAbsorbed]
@[simp] theorem State.setAbsorbed_es (i : SlotNo) (a : Nat) : (s.setAbsorbed i a).es = s.es := by simp [State.setAbsorbed]
@[simp] theorem State.setAbsorbed_nlc (i : SlotNo) (a : Nat) : (s.setAbsorbed i a).nlc = s.nlc := by simp [State.setAbsorbed]
@[simp] theorem State.setAbsorbed_ac (i : SlotNo) (a : Nat) : (s.setAbsorbed i a).ac = s.ac := by simp [State.setAbsorbed]
@[simp] theorem State.setAbsorbed_cs (i : SlotNo) (a : Nat) : (s.setAbsorbed i a).cs = s.cs := by simp [State.setAbsorbed]
@[simp] theorem State.setAbsorbed_mpu (i : SlotNo) (a : Nat) : (s.setAbsorbed i a).mpu = s.mpu := by simp [State.setAbsorbed]
@[simp] theorem State.setAbsorbed_freeCount (i : SlotNo) (a : Nat) : (s.setAbsorbed i a).freeCount = s.freeCount := by simp [State.setAbsorbed]
@[simp] theorem State.setAbsorbed_pending (i : SlotNo) (a : Nat) : (s.setAbsorbed i a).pending = s.pending := by simp [State.setAbsorbed]

/-! ### State.modElem -/

@[simp] theorem State.modElem_now (i : SlotNo) (f : ElemRec → ElemRec) : (s.modElem i f).now = s.now := rfl
@[simp] theorem State.modElem_st (i : SlotNo) (f : ElemRec → ElemRec) : (s.modElem i f).st = s.st := rfl
@[simp] theorem State.modElem_zr (i : SlotNo) (f : ElemRec → ElemRec) : (s.modElem i f).zr = s.zr := rfl
@[simp] theorem State.modElem_sc (i : SlotNo) (f : ElemRec → ElemRec) : (s.modElem i f).sc = s.sc := rfl
@[simp] theorem State.modElem_ic (i : SlotNo) (f : ElemRec → ElemRec) : (s.modElem i f).ic = s.ic := rfl
@[simp] theorem State.modElem_ddc (i : SlotNo) (f : ElemRec → ElemRec) : (s.modElem i f).ddc = s.ddc := rfl
@[simp] theorem State.modElem_ot (i : SlotNo) (f : ElemRec → ElemRec) : (s.modElem i f).ot = s.ot := rfl
@[simp] theorem State.modElem_pa (i : SlotNo) (f : ElemRec → ElemRec) : (s.modElem i f).pa = s.pa := rfl
@[simp] theorem State.modElem_nlc (i : SlotNo) (f : ElemRec → ElemRec) : (s.modElem i f).nlc = s.nlc := rfl
@[simp] theorem State.modElem_ac (i : SlotNo) (f : ElemRec → ElemRec) : (s.modElem i f).ac = s.ac := rfl
@[simp] theorem State.modElem_cs (i : SlotNo) (f : ElemRec → ElemRec) : (s.modElem i f).cs = s.cs := rfl
@[simp] theorem State.modElem_mpu (i : SlotNo) (f : ElemRec → ElemRec) : (s.modElem i f).mpu = s.mpu := rfl
@[simp] theorem State.modElem_freeCount (i : SlotNo) (f : ElemRec → ElemRec) : (s.modElem i f).freeCount = s.freeCount := rfl
@[simp] theorem State.modElem_pending (i : SlotNo) (f : ElemRec → ElemRec) : (s.modElem i f).pending = s.pending := rfl

/-! ### State.setQueue -/

@[simp] theorem State.setQueue_now (q : List SlotNo) : (s.setQueue q).now = s.now := rfl
@[simp] theorem State.setQueue_st (q : List SlotNo) : (s.setQueue q).st = s.st := rfl
@[simp] theorem State.setQueue_zr (q : List SlotNo) : (s.setQueue q).zr = s.zr := rfl
@[simp] theorem State.setQueue_sc (q : List SlotNo) : (s.setQueue q).sc = s.sc := rfl
@[simp] theorem State.setQueue_ic (q : List SlotNo) : (s.setQueue q).ic = s.ic := rfl
@[simp] theorem State.setQueue_ddc (q : List SlotNo) : (s.setQueue q).ddc = s.ddc := rfl
@[simp] theorem State.setQueue_ot (q : List SlotNo) : (s.setQueue q).ot = s.ot := rfl
@[simp] theorem State.setQueue_pa (q : List SlotNo) : (s.setQueue q).pa = s.pa := rfl
@[simp] theorem State.setQueue_nlc (q : List SlotNo) : (s.setQueue q).nlc = s.nlc := rfl
@[simp] theorem State.setQueue_ac (q : List SlotNo) : (s.setQueue q).ac = s.ac := rfl
@[simp] theorem State.setQueue_cs (q : List SlotNo) : (s.setQueue q).cs = s.cs := rfl
@[simp] theorem State.setQueue_mpu (q : List SlotNo) : (s.setQueue q).mpu = s.mpu := rfl
@[simp] theorem State.setQueue_freeCount (q : List SlotNo) : (s.setQueue q).freeCount = s.freeCount := rfl
@[simp] theorem State.setQueue_pending (q : List SlotNo) : (s.setQueue q).pending = s.pending := rfl

/-! ### State.setEntry -/

@[simp] theorem State.setEntry_now (e : EntryNo) (x : Option Entry) : (s.setEntry e x).now = s.now := rfl
@[simp] theorem State.setEntry_st (e : EntryNo) (x : Option Entry) : (s.setEntry e x).st = s.st := rfl
@[simp] theorem State.setEntry_zr (e : EntryNo) (x : Option Entry) : (s.setEntry e x).zr = s.zr := rfl
@[simp] theorem State.setEntry_sc (e : EntryNo) (x : Option Entry) : (s.setEntry e x).sc = s.sc := rfl
@[simp] theorem State.setEntry_ic (e : EntryNo) (x : Option Entry) : (s.setEntry e x).ic = s.ic := rfl
@[simp] theorem State.setEntry_ddc (e : EntryNo) (x : Option Entry) : (s.setEntry e x).ddc = s.ddc := rfl
@[simp] theorem State.setEntry_pa (e : EntryNo) (x : Option Entry) : (s.setEntry e x).pa = s.pa := rfl
@[simp] theorem State.setEntry_es (e : EntryNo) (x : Option Entry) : (s.setEntry e x).es = s.es := rfl
@[simp] theorem State.setEntry_nlc (e : EntryNo) (x : Option Entry) : (s.setEntry e x).nlc = s.nlc := rfl
@[simp] theorem State.setEntry_ac (e : EntryNo) (x : Option Entry) : (s.setEntry e x).ac = s.ac := rfl
@[simp] theorem State.setEntry_cs (e : EntryNo) (x : Option Entry) : (s.setEntry e x).cs = s.cs := rfl
@[simp] theorem State.setEntry_mpu (e : EntryNo) (x : Option Entry) : (s.setEntry e x).mpu = s.mpu := rfl
@[simp] theorem State.setEntry_freeCount (e : EntryNo) (x : Option Entry) : (s.setEntry e x).freeCount = s.freeCount := rfl
@[simp] theorem State.setEntry_pending (e : EntryNo) (x : Option Entry) : (s.setEntry e x).pending = s.pending := rfl

/-! ### State.mapEntries -/

@[simp] theorem State.mapEntries_now (f : Entry → Entry) : (s.mapEntries f).now = s.now := by simp only [State.mapEntries]
@[simp] theorem State.mapEntries_st (f : Entry → Entry) : (s.mapEntries f).st = s.st := by simp only [State.mapEntries]
@[simp] theorem State.mapEntries_zr (f : Entry → Entry) : (s.mapEntries f).zr = s.zr := by simp only [State.mapEntries]
@[simp] theorem State.mapEntries_sc (f : Entry → Entry) : (s.mapEntries f).sc = s.sc := by simp only [State.mapEntries]
@[simp] theorem State.mapEntries_ic (f : Entry → Entry) : (s.mapEntries f).ic = s.ic := by simp only [State.mapEntries]
@[simp] theorem State.mapEntries_ddc (f : Entry → Entry) : (s.mapEntries f).ddc = s.ddc := by simp only [State.mapEntries]
@[simp] theorem State.mapEntries_pa (f : Entry → Entry) : (s.mapEntries f).pa = s.pa := by simp only [State.mapEntries]
@[simp] theorem State.mapEntries_es (f : Entry → Entry) : (s.mapEntries f).es = s.es := by simp only [State.mapEntries]
@[simp] theorem State.mapEntries_nlc (f : Entry → Entry) : (s.mapEntries f).nlc = s.nlc := by simp only [State.mapEntries]
@[simp] theorem State.mapEntries_ac (f : Entry → Entry) : (s.mapEntries f).ac = s.ac := by simp only [State.mapEntries]
@[simp] theorem State.mapEntries_cs (f : Entry → Entry) : (s.mapEntries f).cs = s.cs := by simp only [State.mapEntries]
@[simp] theorem State.mapEntries_mpu (f : Entry → Entry) : (s.mapEntries f).mpu = s.mpu := by simp only [State.mapEntries]
@[simp] theorem State.mapEntries_freeCount (f : Entry → Entry) : (s.mapEntries f).freeCount = s.freeCount := by simp only [State.mapEntries]
@[simp] theorem State.mapEntries_pending (f : Entry → Entry) : (s.mapEntries f).pending = s.pending := by simp only [State.mapEntries]

/-! ### State.raise -/

@[simp] theorem State.raise_now (c : Notice) : (s.raise c).now = s.now := by simp only [State.raise]
@[simp] theorem State.raise_st (c : Notice) : (s.raise c).st = s.st := by simp only [State.raise]
@[simp] theorem State.raise_zr (c : Notice) : (s.raise c).zr = s.zr := by simp only [State.raise]
@[simp] theorem State.raise_sc (c : Notice) : (s.raise c).sc = s.sc := by simp only [State.raise]
@[simp] theorem State.raise_ic (c : Notice) : (s.raise c).ic = s.ic := by simp only [State.raise]
@[simp] theorem State.raise_ddc (c : Notice) : (s.raise c).ddc = s.ddc := by simp only [State.raise]
@[simp] theorem State.raise_ot (c : Notice) : (s.raise c).ot = s.ot := by simp only [State.raise]
@[simp] theorem State.raise_pa (c : Notice) : (s.raise c).pa = s.pa := by simp only [State.raise]
@[simp] theorem State.raise_es (c : Notice) : (s.raise c).es = s.es := by simp only [State.raise]
@[simp] theorem State.raise_nlc (c : Notice) : (s.raise c).nlc = s.nlc := by simp only [State.raise]
@[simp] theorem State.raise_ac (c : Notice) : (s.raise c).ac = s.ac := by simp only [State.raise]
@[simp] theorem State.raise_cs (c : Notice) : (s.raise c).cs = s.cs := by simp only [State.raise]
@[simp] theorem State.raise_freeCount (c : Notice) : (s.raise c).freeCount = s.freeCount := by simp only [State.raise]
@[simp] theorem State.raise_pending (c : Notice) : (s.raise c).pending = s.pending := by simp only [State.raise]

/-! ### State.raisePortLost -/

@[simp] theorem State.raisePortLost_now (p : Port) : (s.raisePortLost p).now = s.now := by simp only [State.raisePortLost]
@[simp] theorem State.raisePortLost_st (p : Port) : (s.raisePortLost p).st = s.st := by simp only [State.raisePortLost]
@[simp] theorem State.raisePortLost_zr (p : Port) : (s.raisePortLost p).zr = s.zr := by simp only [State.raisePortLost]
@[simp] theorem State.raisePortLost_sc (p : Port) : (s.raisePortLost p).sc = s.sc := by simp only [State.raisePortLost]
@[simp] theorem State.raisePortLost_ic (p : Port) : (s.raisePortLost p).ic = s.ic := by simp only [State.raisePortLost]
@[simp] theorem State.raisePortLost_ddc (p : Port) : (s.raisePortLost p).ddc = s.ddc := by simp only [State.raisePortLost]
@[simp] theorem State.raisePortLost_ot (p : Port) : (s.raisePortLost p).ot = s.ot := by simp only [State.raisePortLost]
@[simp] theorem State.raisePortLost_pa (p : Port) : (s.raisePortLost p).pa = s.pa := by simp only [State.raisePortLost]
@[simp] theorem State.raisePortLost_es (p : Port) : (s.raisePortLost p).es = s.es := by simp only [State.raisePortLost]
@[simp] theorem State.raisePortLost_nlc (p : Port) : (s.raisePortLost p).nlc = s.nlc := by simp only [State.raisePortLost]
@[simp] theorem State.raisePortLost_ac (p : Port) : (s.raisePortLost p).ac = s.ac := by simp only [State.raisePortLost]
@[simp] theorem State.raisePortLost_cs (p : Port) : (s.raisePortLost p).cs = s.cs := by simp only [State.raisePortLost]
@[simp] theorem State.raisePortLost_freeCount (p : Port) : (s.raisePortLost p).freeCount = s.freeCount := by simp only [State.raisePortLost]
@[simp] theorem State.raisePortLost_pending (p : Port) : (s.raisePortLost p).pending = s.pending := by simp only [State.raisePortLost]

/-! ### State.withItem -/

@[simp] theorem State.withItem_now (it : Item) (v : Int) : (s.withItem it v).now = s.now := by simp only [State.withItem]
@[simp] theorem State.withItem_st (it : Item) (v : Int) : (s.withItem it v).st = s.st := by simp only [State.withItem]
@[simp] theorem State.withItem_zr (it : Item) (v : Int) : (s.withItem it v).zr = s.zr := by simp only [State.withItem]
@[simp] theorem State.withItem_sc (it : Item) (v : Int) : (s.withItem it v).sc = s.sc := by simp only [State.withItem]
@[simp] theorem State.withItem_ic (it : Item) (v : Int) : (s.withItem it v).ic = s.ic := by simp only [State.withItem]
@[simp] theorem State.withItem_ddc (it : Item) (v : Int) : (s.withItem it v).ddc = s.ddc := by simp only [State.withItem]
@[simp] theorem State.withItem_ot (it : Item) (v : Int) : (s.withItem it v).ot = s.ot := by simp only [State.withItem]
@[simp] theorem State.withItem_pa (it : Item) (v : Int) : (s.withItem it v).pa = s.pa := by simp only [State.withItem]
@[simp] theorem State.withItem_es (it : Item) (v : Int) : (s.withItem it v).es = s.es := by simp only [State.withItem]
@[simp] theorem State.withItem_nlc (it : Item) (v : Int) : (s.withItem it v).nlc = s.nlc := by simp only [State.withItem]
@[simp] theorem State.withItem_ac (it : Item) (v : Int) : (s.withItem it v).ac = s.ac := by simp only [State.withItem]
@[simp] theorem State.withItem_mpu (it : Item) (v : Int) : (s.withItem it v).mpu = s.mpu := by simp only [State.withItem]
@[simp] theorem State.withItem_freeCount (it : Item) (v : Int) : (s.withItem it v).freeCount = s.freeCount := by simp only [State.withItem]
@[simp] theorem State.withItem_pending (it : Item) (v : Int) : (s.withItem it v).pending = s.pending := by simp only [State.withItem]

/-! ### State.tookFree -/

@[simp] theorem State.tookFree_now : (s.tookFree).now = s.now := rfl
@[simp] theorem State.tookFree_st : (s.tookFree).st = s.st := rfl
@[simp] theorem State.tookFree_zr : (s.tookFree).zr = s.zr := rfl
@[simp] theorem State.tookFree_sc : (s.tookFree).sc = s.sc := rfl
@[simp] theorem State.tookFree_ic : (s.tookFree).ic = s.ic := rfl
@[simp] theorem State.tookFree_ddc : (s.tookFree).ddc = s.ddc := rfl
@[simp] theorem State.tookFree_ot : (s.tookFree).ot = s.ot := rfl
@[simp] theorem State.tookFree_pa : (s.tookFree).pa = s.pa := rfl
@[simp] theorem State.tookFree_es : (s.tookFree).es = s.es := rfl
@[simp] theorem State.tookFree_nlc : (s.tookFree).nlc = s.nlc := rfl
@[simp] theorem State.tookFree_ac : (s.tookFree).ac = s.ac := rfl
@[simp] theorem State.tookFree_cs : (s.tookFree).cs = s.cs := rfl
@[simp] theorem State.tookFree_mpu : (s.tookFree).mpu = s.mpu := rfl
@[simp] theorem State.tookFree_pending : (s.tookFree).pending = s.pending := rfl

/-! ### Reading a row after an update -/

@[simp] theorem State.modPort_port_self (p : Port) (f : PortCtx → PortCtx) :
    (s.modPort p f).port p = f (s.port p) := by
  cases p <;> rfl

theorem State.modPort_port_ne {p q : Port} (f : PortCtx → PortCtx) (h : q ≠ p) :
    (s.modPort p f).port q = s.port q := by
  cases p <;> cases q <;> first | rfl | exact absurd rfl h

@[simp] theorem State.modLink_link_self (n : Node) (f : LinkCtx → LinkCtx) :
    (s.modLink n f).link n = f (s.link n) := by
  cases n <;> rfl

theorem State.modLink_link_ne {n m : Node} (f : LinkCtx → LinkCtx) (h : m ≠ n) :
    (s.modLink n f).link m = s.link m := by
  cases n <;> cases m <;> first | rfl | exact absurd rfl h

theorem State.modZone_zone (z y : ZoneNo) (f : ZoneRec → ZoneRec) :
    (s.modZone z f).zone y = if z = y then f (s.zone y) else s.zone y := by
  simp [State.modZone, State.zone, updV_get, Fin.ext_iff]

theorem State.mapZones_zone (y : ZoneNo) (f : ZoneRec → ZoneRec) :
    (s.mapZones f).zone y = f (s.zone y) := by
  simp [State.mapZones, State.zone]

theorem State.modInput_input (i j : InputNo) (f : InputRec → InputRec) :
    (s.modInput i f).input j = if i = j then f (s.input j) else s.input j := by
  simp [State.modInput, State.input, updV_get, Fin.ext_iff]

theorem State.modDoor_door (d e : DoorNo) (f : DoorRec → DoorRec) :
    (s.modDoor d f).door e = if d = e then f (s.door e) else s.door e := by
  simp [State.modDoor, State.door, updV_get, Fin.ext_iff]

theorem State.modMember_member (m k : Fin 18) (f : MemberRec → MemberRec) :
    (s.modMember m f).member k = if m = k then f (s.member k) else s.member k := by
  simp [State.modMember, State.member, updV_get, Fin.ext_iff]

theorem State.tabMembers_member (k : Fin 18) (f : Fin 18 → MemberRec → MemberRec) :
    (s.tabMembers f).member k = f k (s.member k) := by
  simp [State.tabMembers, State.member]

theorem State.modClass_class (c k : HeatClass) (f : ClassRec → ClassRec) :
    (s.modClass c f).class k = if c = k then f (s.class k) else s.class k := by
  by_cases h : c = k
  · subst h
    simp [State.modClass, State.class]
  · have e : (k.index : Nat) ≠ c.index := by
      cases c <;> cases k <;> first | exact absurd rfl h | decide
    simp [State.modClass, State.class, updV_get_ne _ _ _ _ e, h]

theorem State.modElem_elem (i j : SlotNo) (f : ElemRec → ElemRec) :
    (s.modElem i f).elem j = if i = j then f (s.elem j) else s.elem j := by
  simp [State.modElem, State.elem, updV_get, Fin.ext_iff]

theorem State.setAbsorbed_absorbed (i j : SlotNo) (a : Nat) :
    (s.setAbsorbed i a).absorbed j = if i = j then a else s.absorbed j := by
  simp [State.setAbsorbed, State.modSurplus, State.absorbed, updV_get, Fin.ext_iff]

theorem State.setEntry_entry (e k : EntryNo) (x : Option Entry) :
    (s.setEntry e x).entry k = if e = k then x else s.entry k := by
  simp [State.setEntry, State.entry, updV_get, Fin.ext_iff]

theorem State.mapEntries_entry (k : EntryNo) (f : Entry → Entry) :
    (s.mapEntries f).entry k = (s.entry k).map f := by
  simp [State.mapEntries, State.entry]

@[simp] theorem State.modElem_queue (i : SlotNo) (f : ElemRec → ElemRec) :
    (s.modElem i f).es.queue = s.es.queue := rfl

@[simp] theorem State.setQueue_queue (q : List SlotNo) : (s.setQueue q).es.queue = q := rfl

@[simp] theorem State.setQueue_elem (q : List SlotNo) (i : SlotNo) :
    (s.setQueue q).elem i = s.elem i := rfl

@[simp] theorem State.modScreen_sc (f : ScreenRec → ScreenRec) : (s.modScreen f).sc = f s.sc := rfl

/-- What a raise leaves of a port: everything but the notice set and the attention line. -/
theorem State.raise_port_quiet (c : Notice) (p : Port) :
    ((s.raise c).port p).quiet = (s.port p).quiet := by
  cases p <;> rfl

end Sys2Proof.Machine
end

