-- ==== Sys2Proof/Laws/Frames.lean ====
section
/-! SUPPORT. Which parts of State each shared operation leaves: one lemma per operation, for every part that is
not in its list. A frame of a command is read off the lemma of the operation it calls. -/

namespace Sys2Proof.Machine

/-! ### The parts and the fields -/

/-- A loop leaves a part that each of its turns leaves. -/
@[simp] theorem foldl_part {α : Type} (f : State → α → State) (pt : Part) (l : List α) (s : State)
    (h : ∀ t x, (f t x).part pt = t.part pt) : (l.foldl f s).part pt = s.part pt := by
  induction l generalizing s with
  | nil => rfl
  | cons a l ih => rw [List.foldl_cons, ih, h]

/-- A part of a choice of two states. -/
@[simp] theorem ite_part (c : Prop) [Decidable c] (s t : State) (pt : Part) :
    (if c then s else t).part pt = if c then s.part pt else t.part pt := by
  split <;> rfl

@[simp] theorem State.with_st_part (s : State) (x : SampleTable) (pt : Part) (h : pt ≠ .samples) :
    State.part { s with st := x } pt = s.part pt := by
  cases pt <;> first | exact absurd rfl h | rfl

@[simp] theorem State.with_zr_part (s : State) (x : ZoneRegulator) (pt : Part) (h : pt ≠ .zones) :
    State.part { s with zr := x } pt = s.part pt := by
  cases pt <;> first | exact absurd rfl h | rfl

@[simp] theorem State.with_sc_part (s : State) (x : ScreenRec) (pt : Part) (h : pt ≠ .screen) :
    State.part { s with sc := x } pt = s.part pt := by
  cases pt <;> first | exact absurd rfl h | rfl

@[simp] theorem State.with_ic_part (s : State) (x : Vector InputRec 6) (pt : Part) (h : pt ≠ .inputs) :
    State.part { s with ic := x } pt = s.part pt := by
  cases pt <;> first | exact absurd rfl h | rfl

@[simp] theorem State.with_ddc_part (s : State) (x : DoorController) (pt : Part) (h : pt ≠ .doors) :
    State.part { s with ddc := x } pt = s.part pt := by
  cases pt <;> first | exact absurd rfl h | rfl

@[simp] theorem State.with_ot_part (s : State) (x : OverrideTable) (pt : Part) (h : pt ≠ .overrides) :
    State.part { s with ot := x } pt = s.part pt := by
  cases pt <;> first | exact absurd rfl h | rfl

@[simp] theorem State.with_pa_part (s : State) (x : PowerAllocator) (pt : Part) (h : pt ≠ .power) :
    State.part { s with pa := x } pt = s.part pt := by
  cases pt <;> first | exact absurd rfl h | rfl

@[simp] theorem State.with_es_part (s : State) (x : ElementStager) (pt : Part) (h : pt ≠ .elements) :
    State.part { s with es := x } pt = s.part pt := by
  cases pt <;> first | exact absurd rfl h | rfl

@[simp] theorem State.with_nlc_part (s : State) (x : LinkController) (pt : Part) (h : pt ≠ .links) :
    State.part { s with nlc := x } pt = s.part pt := by
  cases pt <;> first | exact absurd rfl h | rfl

@[simp] theorem State.with_ac_part (s : State) (x : Vector CounterRec 8) (pt : Part) (h : pt ≠ .counters) :
    State.part { s with ac := x } pt = s.part pt := by
  cases pt <;> first | exact absurd rfl h | rfl

@[simp] theorem State.with_cs_part (s : State) (x : ConfigStore) (pt : Part) (h : pt ≠ .store) :
    State.part { s with cs := x } pt = s.part pt := by
  cases pt <;> first | exact absurd rfl h | rfl

@[simp] theorem State.with_freeCount_part (s : State) (x : Nat) (pt : Part) (h : pt ≠ .free) :
    State.part { s with freeCount := x } pt = s.part pt := by
  cases pt <;> first | exact absurd rfl h | rfl

theorem State.st_of_part {s t : State} (h : t.part .samples = s.part .samples) :
    t.st = s.st := by
  simpa [State.part] using h

theorem State.zr_of_part {s t : State} (h : t.part .zones = s.part .zones) :
    t.zr = s.zr := by
  simpa [State.part] using h

theorem State.sc_of_part {s t : State} (h : t.part .screen = s.part .screen) :
    t.sc = s.sc := by
  simpa [State.part] using h

theorem State.ic_of_part {s t : State} (h : t.part .inputs = s.part .inputs) :
    t.ic = s.ic := by
  simpa [State.part] using h

theorem State.ddc_of_part {s t : State} (h : t.part .doors = s.part .doors) :
    t.ddc = s.ddc := by
  simpa [State.part] using h

theorem State.ot_of_part {s t : State} (h : t.part .overrides = s.part .overrides) :
    t.ot = s.ot := by
  simpa [State.part] using h

theorem State.pa_of_part {s t : State} (h : t.part .power = s.part .power) :
    t.pa = s.pa := by
  simpa [State.part] using h

theorem State.es_of_part {s t : State} (h : t.part .elements = s.part .elements) :
    t.es = s.es := by
  simpa [State.part] using h

theorem State.nlc_of_part {s t : State} (h : t.part .links = s.part .links) :
    t.nlc = s.nlc := by
  simpa [State.part] using h

theorem State.ac_of_part {s t : State} (h : t.part .counters = s.part .counters) :
    t.ac = s.ac := by
  simpa [State.part] using h

theorem State.cs_of_part {s t : State} (h : t.part .store = s.part .store) :
    t.cs = s.cs := by
  simpa [State.part] using h

theorem State.freeCount_of_part {s t : State} (h : t.part .free = s.part .free) :
    t.freeCount = s.freeCount := by
  simpa [State.part] using h

theorem State.now_of_part {s t : State} (h : t.part .time = s.part .time) :
    t.now = s.now := by
  simpa [State.part] using h

theorem State.pending_of_part {s t : State} (h : t.part .queue = s.part .queue) :
    t.pending = s.pending := by
  simpa [State.part] using h

/-! ### Updates of one record -/

@[simp] theorem State.modPort_part (s : State) (p : Port) (f : PortCtx → PortCtx) (pt : Part)
    (h : pt ∉ ([.notices, .ports] : List Part)) :
    (State.modPort s p f).part pt = s.part pt := by
  cases pt <;> first
    | (exact absurd List.mem_cons_self h)
    | (exact absurd (List.mem_cons_of_mem _ List.mem_cons_self) h)
    | rfl

@[simp] theorem State.modLink_part (s : State) (n : Node) (f : LinkCtx → LinkCtx) (pt : Part)
    (h : pt ∉ ([.links] : List Part)) :
    (State.modLink s n f).part pt = s.part pt := by
  cases pt <;> first
    | (exact absurd List.mem_cons_self h)
    | rfl

@[simp] theorem State.modValue_part (s : State) (v : ValueId) (f : ValueRec → ValueRec) (pt : Part)
    (h : pt ∉ ([.samples] : List Part)) :
    (State.modValue s v f).part pt = s.part pt := by
  cases pt <;> first
    | (exact absurd List.mem_cons_self h)
    | rfl

@[simp] theorem State.modZone_part (s : State) (z : ZoneNo) (f : ZoneRec → ZoneRec) (pt : Part)
    (h : pt ∉ ([.zones] : List Part)) :
    (State.modZone s z f).part pt = s.part pt := by
  cases pt <;> first
    | (exact absurd List.mem_cons_self h)
    | rfl

@[simp] theorem State.mapZones_part (s : State) (f : ZoneRec → ZoneRec) (pt : Part)
    (h : pt ∉ ([.zones] : List Part)) :
    (State.mapZones s f).part pt = s.part pt := by
  cases pt <;> first
    | (exact absurd List.mem_cons_self h)
    | rfl

@[simp] theorem State.modScreen_part (s : State) (f : ScreenRec → ScreenRec) (pt : Part)
    (h : pt ∉ ([.screen] : List Part)) :
    (State.modScreen s f).part pt = s.part pt := by
  cases pt <;> first
    | (exact absurd List.mem_cons_self h)
    | rfl

@[simp] theorem State.modInput_part (s : State) (i : InputNo) (f : InputRec → InputRec) (pt : Part)
    (h : pt ∉ ([.inputs] : List Part)) :
    (State.modInput s i f).part pt = s.part pt := by
  cases pt <;> first
    | (exact absurd List.mem_cons_self h)
    | rfl

@[simp] theorem State.modDoor_part (s : State) (d : DoorNo) (f : DoorRec → DoorRec) (pt : Part)
    (h : pt ∉ ([.doors] : List Part)) :
    (State.modDoor s d f).part pt = s.part pt := by
  cases pt <;> first
    | (exact absurd List.mem_cons_self h)
    | rfl

@[simp] theorem State.modMember_part (s : State) (m : Fin 18) (f : MemberRec → MemberRec) (pt :
    Part)
    (h : pt ∉ ([.power] : List Part)) :
    (State.modMember s m f).part pt = s.part pt := by
  cases pt <;> first
    | (exact absurd List.mem_cons_self h)
    | rfl

@[simp] theorem State.tabMembers_part (s : State) (f : Fin 18 → MemberRec → MemberRec) (pt : Part)
    (h : pt ∉ ([.power] : List Part)) :
    (State.tabMembers s f).part pt = s.part pt := by
  simp only [List.mem_cons, List.not_mem_nil, or_false] at h
  simp [State.tabMembers, h]

@[simp] theorem State.modClass_part (s : State) (c : HeatClass) (f : ClassRec → ClassRec) (pt :
    Part)
    (h : pt ∉ ([.power] : List Part)) :
    (State.modClass s c f).part pt = s.part pt := by
  cases pt <;> first
    | (exact absurd List.mem_cons_self h)
    | rfl

@[simp] theorem State.modSurplus_part (s : State) (f : SurplusRec → SurplusRec) (pt : Part)
    (h : pt ∉ ([.power] : List Part)) :
    (State.modSurplus s f).part pt = s.part pt := by
  cases pt <;> first
    | (exact absurd List.mem_cons_self h)
    | rfl

@[simp] theorem State.modElem_part (s : State) (i : SlotNo) (f : ElemRec → ElemRec) (pt : Part)
    (h : pt ∉ ([.elements] : List Part)) :
    (State.modElem s i f).part pt = s.part pt := by
  cases pt <;> first
    | (exact absurd List.mem_cons_self h)
    | rfl

@[simp] theorem State.setQueue_part (s : State) (q : List SlotNo) (pt : Part)
    (h : pt ∉ ([.elements] : List Part)) :
    (State.setQueue s q).part pt = s.part pt := by
  cases pt <;> first
    | (exact absurd List.mem_cons_self h)
    | rfl

@[simp] theorem State.setEntry_part (s : State) (e : EntryNo) (x : Option Entry) (pt : Part)
    (h : pt ∉ ([.overrides] : List Part)) :
    (State.setEntry s e x).part pt = s.part pt := by
  cases pt <;> first
    | (exact absurd List.mem_cons_self h)
    | rfl

@[simp] theorem State.mapEntries_part (s : State) (f : Entry → Entry) (pt : Part)
    (h : pt ∉ ([.overrides] : List Part)) :
    (State.mapEntries s f).part pt = s.part pt := by
  simp only [List.mem_cons, List.not_mem_nil, or_false] at h
  simp [State.mapEntries, h]

@[simp] theorem State.raise_part (s : State) (c : Notice) (pt : Part)
    (h : pt ∉ ([.notices] : List Part)) :
    (State.raise s c).part pt = s.part pt := by
  cases pt <;> first
    | (exact absurd List.mem_cons_self h)
    | rfl

@[simp] theorem State.raisePortLost_part (s : State) (silent : Port) (pt : Part)
    (h : pt ∉ ([.notices] : List Part)) :
    (State.raisePortLost s silent).part pt = s.part pt := by
  cases silent <;> cases pt <;> first | (exact absurd List.mem_cons_self h) | rfl

@[simp] theorem State.withItem_part (s : State) (it : Item) (v : Int) (pt : Part)
    (h : pt ∉ ([.store] : List Part)) :
    (State.withItem s it v).part pt = s.part pt := by
  cases pt <;> first
    | (exact absurd List.mem_cons_self h)
    | rfl

@[simp] theorem State.tookFree_part (s : State) (pt : Part)
    (h : pt ∉ ([.free] : List Part)) :
    (State.tookFree s).part pt = s.part pt := by
  cases pt <;> first
    | (exact absurd List.mem_cons_self h)
    | rfl

/-! ### Surplus -/

@[simp] theorem State.setAbsorbed_part (s : State) (i : SlotNo) (a : Nat) (pt : Part)
    (h : pt ∉ ([.power] : List Part)) :
    (State.setAbsorbed s i a).part pt = s.part pt := by
  simp only [List.mem_cons, List.not_mem_nil, or_false] at h
  unfold State.setAbsorbed
  simp [h]

/-! ### Notices and counters -/

@[simp] theorem State.raiseIf_part (s : State) (b : Bool) (c : Notice) (pt : Part)
    (h : pt ∉ ([.notices] : List Part)) :
    (State.raiseIf s b c).part pt = s.part pt := by
  simp only [List.mem_cons, List.not_mem_nil, or_false] at h
  unfold State.raiseIf
  (repeat' split) <;> simp [h]

@[simp] theorem State.signal_part (s : State) (ev : CountedEvent) (qual : Option Nat) (qty : Nat)
    (pt : Part)
    (h : pt ∉ ([.counters, .notices] : List Part)) :
    (State.signal s ev qual qty).part pt = s.part pt := by
  simp only [List.mem_cons, List.not_mem_nil, or_false, not_or] at h
  unfold State.signal
  dsimp only
  (repeat' split) <;> simp [h]

@[simp] theorem State.signalSheds_part (s : State) (n : Nat) (pt : Part)
    (h : pt ∉ ([.counters, .notices] : List Part)) :
    (State.signalSheds s n).part pt = s.part pt := by
  simp only [List.mem_cons, List.not_mem_nil, or_false, not_or] at h
  unfold State.signalSheds
  (repeat' split) <;> simp [h]

/-! ### Element Stager -/

@[simp] theorem State.openContactor_part (s : State) (i : SlotNo) (pt : Part)
    (h : pt ∉ ([.elements] : List Part)) :
    (State.openContactor s i).part pt = s.part pt := by
  simp only [List.mem_cons, List.not_mem_nil, or_false] at h
  unfold State.openContactor
  simp [h]

@[simp] theorem State.orderQueue_part (s : State) (pt : Part)
    (h : pt ∉ ([.elements] : List Part)) :
    (State.orderQueue s).part pt = s.part pt := by
  unfold State.orderQueue
  simp [h]

@[simp] theorem State.enqueue_part (s : State) (i : SlotNo) (pt : Part)
    (h : pt ∉ ([.elements] : List Part)) :
    (State.enqueue s i).part pt = s.part pt := by
  simp only [List.mem_cons, List.not_mem_nil, or_false] at h
  unfold State.enqueue
  (repeat' split) <;> simp [h]

@[simp] theorem State.dequeue_part (s : State) (i : SlotNo) (pt : Part)
    (h : pt ∉ ([.elements] : List Part)) :
    (State.dequeue s i).part pt = s.part pt := by
  simp only [List.mem_cons, List.not_mem_nil, or_false] at h
  unfold State.dequeue
  simp [h]

@[simp] theorem State.switchContactors_part (s : State) (free chosen : List SlotNo) (pt : Part)
    (h : pt ∉ ([.elements] : List Part)) :
    (State.switchContactors s free chosen).part pt = s.part pt := by
  simp only [List.mem_cons, List.not_mem_nil, or_false] at h
  unfold State.switchContactors
  dsimp only
  simp [h]

@[simp] theorem State.stageZone_part (s : State) (z : ZoneNo) (pt : Part)
    (h : pt ∉ ([.elements] : List Part)) :
    (State.stageZone s z).part pt = s.part pt := by
  simp only [List.mem_cons, List.not_mem_nil, or_false] at h
  unfold State.stageZone
  dsimp only
  (repeat' split) <;> simp [h]

@[simp] theorem State.stageOwned_part (s : State) (o : Owner) (grant : Nat) (extra : SlotNo → Nat)
    (pt : Part)
    (h : pt ∉ ([.elements] : List Part)) :
    (State.stageOwned s o grant extra).part pt = s.part pt := by
  simp only [List.mem_cons, List.not_mem_nil, or_false] at h
  unfold State.stageOwned
  (repeat' split) <;> simp [h]

@[simp] theorem State.stageCurtain_part (s : State) (d : DoorNo) (pt : Part)
    (h : pt ∉ ([.elements] : List Part)) :
    (State.stageCurtain s d).part pt = s.part pt := by
  simp only [List.mem_cons, List.not_mem_nil, or_false] at h
  unfold State.stageCurtain
  simp [h]

@[simp] theorem State.stage_part (s : State) (pt : Part)
    (h : pt ∉ ([.elements] : List Part)) :
    (State.stage s).part pt = s.part pt := by
  simp only [List.mem_cons, List.not_mem_nil, or_false] at h
  unfold State.stage
  dsimp only
  simp [h]

@[simp] theorem State.takeOff_part (s : State) (i : SlotNo) (pt : Part)
    (h : pt ∉ ([.elements] : List Part)) :
    (State.takeOff s i).part pt = s.part pt := by
  simp only [List.mem_cons, List.not_mem_nil, or_false] at h
  unfold State.takeOff
  simp [h]

@[simp] theorem State.leaveService_part (s : State) (i : SlotNo) (st : ElemState) (why : Option
    LockoutReason) (pt : Part)
    (h : pt ∉ ([.power, .elements] : List Part)) :
    (State.leaveService s i st why).part pt = s.part pt := by
  simp only [List.mem_cons, List.not_mem_nil, or_false, not_or] at h
  unfold State.leaveService
  simp [h]

/-! ### Power Allocator -/

@[simp] theorem State.setDemand_part (s : State) (m : Fin 18) (d : Nat) (pt : Part)
    (h : pt ∉ ([.power] : List Part)) :
    (State.setDemand s m d).part pt = s.part pt := by
  simp only [List.mem_cons, List.not_mem_nil, or_false] at h
  unfold State.setDemand
  simp [h]

@[simp] theorem State.clampZone_part (s : State) (z : ZoneNo) (pt : Part)
    (h : pt ∉ ([.power] : List Part)) :
    (State.clampZone s z).part pt = s.part pt := by
  simp only [List.mem_cons, List.not_mem_nil, or_false] at h
  unfold State.clampZone
  dsimp only
  (repeat' split) <;> simp [h]

@[simp] theorem State.clampFilm_part (s : State) (pt : Part)
    (h : pt ∉ ([.power] : List Part)) :
    (State.clampFilm s).part pt = s.part pt := by
  simp only [List.mem_cons, List.not_mem_nil, or_false] at h
  unfold State.clampFilm
  simp [h]

@[simp] theorem State.clampCurtain_part (s : State) (d : DoorNo) (pt : Part)
    (h : pt ∉ ([.power] : List Part)) :
    (State.clampCurtain s d).part pt = s.part pt := by
  simp only [List.mem_cons, List.not_mem_nil, or_false] at h
  unfold State.clampCurtain
  simp [h]

@[simp] theorem State.clampAll_part (s : State) (pt : Part)
    (h : pt ∉ ([.power] : List Part)) :
    (State.clampAll s).part pt = s.part pt := by
  simp only [List.mem_cons, List.not_mem_nil, or_false] at h
  unfold State.clampAll
  simp [h]

@[simp] theorem State.fillHeld_part (s : State) (pt : Part)
    (h : pt ∉ ([.power] : List Part)) :
    (State.fillHeld s).part pt = s.part pt := by
  simp only [List.mem_cons, List.not_mem_nil, or_false] at h
  unfold State.fillHeld
  simp [h]

@[simp] theorem State.grantClass_part (s : State) (c : HeatClass) (grant : Nat) (pt : Part)
    (h : pt ∉ ([.power] : List Part)) :
    (State.grantClass s c grant).part pt = s.part pt := by
  simp only [List.mem_cons, List.not_mem_nil, or_false] at h
  unfold State.grantClass
  dsimp only
  simp [h]

@[simp] theorem State.recordShortfall_part (s : State) (c : HeatClass) (pt : Part)
    (h : pt ∉ ([.power, .counters, .notices] : List Part)) :
    (State.recordShortfall s c).part pt = s.part pt := by
  simp only [List.mem_cons, List.not_mem_nil, or_false, not_or] at h
  unfold State.recordShortfall
  dsimp only
  (repeat' split) <;> simp [h]

@[simp] theorem State.allocate_part (s : State) (pt : Part)
    (h : pt ∉ ([.power] : List Part)) :
    (State.allocate s).part pt = s.part pt := by
  simp only [List.mem_cons, List.not_mem_nil, or_false] at h
  unfold State.allocate
  dsimp only
  simp [h]

@[simp] theorem State.trimSurplus_part (s : State) (pt : Part)
    (h : pt ∉ ([.power, .elements] : List Part)) :
    (State.trimSurplus s).part pt = s.part pt := by
  simp only [List.mem_cons, List.not_mem_nil, or_false, not_or] at h
  unfold State.trimSurplus
  (repeat' split) <;> simp [h]

@[simp] theorem shedToFit_part (k : Nat) (s : State) (pt : Part)
    (h : pt ∉ ([.elements] : List Part)) : (shedToFit k s).1.part pt = s.part pt := by
  induction k generalizing s with
  | zero => rfl
  | succ k ih =>
    unfold shedToFit
    split
    · rfl
    · split
      · rfl
      · simp [ih, h]

@[simp] theorem State.allocationPass_part (s : State) (pt : Part)
    (h : pt ∉ ([.power, .elements, .counters, .notices] : List Part)) :
    (State.allocationPass s).part pt = s.part pt := by
  simp only [List.mem_cons, List.not_mem_nil, or_false, not_or] at h
  unfold State.allocationPass
  dsimp only
  simp [h]

@[simp] theorem State.passIfChanged_part (s before : State) (zs : List ZoneNo) (pt : Part)
    (h : pt ∉ ([.power, .elements, .counters, .notices] : List Part)) :
    (State.passIfChanged s before zs).part pt = s.part pt := by
  simp only [List.mem_cons, List.not_mem_nil, or_false, not_or] at h
  unfold State.passIfChanged
  (repeat' split) <;> simp [h]

@[simp] theorem State.reclampZones_part (s : State) (zs : List ZoneNo) (pt : Part)
    (h : pt ∉ ([.power, .elements, .counters, .notices] : List Part)) :
    (State.reclampZones s zs).part pt = s.part pt := by
  simp only [List.mem_cons, List.not_mem_nil, or_false, not_or] at h
  unfold State.reclampZones
  simp [h]

@[simp] theorem State.availabilityChanged_part (s : State) (pt : Part)
    (h : pt ∉ ([.power, .elements, .counters, .notices] : List Part)) :
    (State.availabilityChanged s).part pt = s.part pt := by
  simp only [List.mem_cons, List.not_mem_nil, or_false, not_or] at h
  unfold State.availabilityChanged
  simp [h]

@[simp] theorem State.post_part (s : State) (m : Fin 18) (v : Nat) (pt : Part)
    (h : pt ∉ ([.power] : List Part)) :
    (State.post s m v).part pt = s.part pt := by
  simp only [List.mem_cons, List.not_mem_nil, or_false] at h
  unfold State.post
  simp [h]

@[simp] theorem State.postBases_part (s : State) (vs : List (ZoneNo × Nat)) (pt : Part)
    (h : pt ∉ ([.power, .elements, .counters, .notices] : List Part)) :
    (State.postBases s vs).part pt = s.part pt := by
  simp only [List.mem_cons, List.not_mem_nil, or_false, not_or] at h
  unfold State.postBases
  simp [h]

@[simp] theorem State.postScreenParts_part (s : State) (film part : Nat) (pt : Part)
    (h : pt ∉ ([.power, .elements, .counters, .notices] : List Part)) :
    (State.postScreenParts s film part).part pt = s.part pt := by
  simp only [List.mem_cons, List.not_mem_nil, or_false, not_or] at h
  unfold State.postScreenParts
  simp [h]

@[simp] theorem State.postDoors_part (s : State) (parts : ZoneNo → Nat) (curtains : DoorNo → Nat)
    (pt : Part)
    (h : pt ∉ ([.power, .elements, .counters, .notices] : List Part)) :
    (State.postDoors s parts curtains).part pt = s.part pt := by
  simp only [List.mem_cons, List.not_mem_nil, or_false, not_or] at h
  unfold State.postDoors
  dsimp only
  simp [h]

@[simp] theorem State.ceilingTest_part (s : State) (pt : Part)
    (h : pt ∉ ([.power] : List Part)) :
    (State.ceilingTest s).part pt = s.part pt := by
  simp only [List.mem_cons, List.not_mem_nil, or_false] at h
  unfold State.ceilingTest
  dsimp only
  (repeat' split) <;> simp [h]

@[simp] theorem State.closeSurplus_part (s : State) (pt : Part)
    (h : pt ∉ ([.power, .elements, .notices] : List Part)) :
    (State.closeSurplus s).part pt = s.part pt := by
  simp only [List.mem_cons, List.not_mem_nil, or_false, not_or] at h
  unfold State.closeSurplus
  simp [h]

@[simp] theorem State.endWindow_part (s : State) (pt : Part)
    (h : pt ∉ ([.power, .elements, .counters, .notices] : List Part)) :
    (State.endWindow s).part pt = s.part pt := by
  simp only [List.mem_cons, List.not_mem_nil, or_false, not_or] at h
  unfold State.endWindow
  simp [h]

/-! ### Zone Regulator -/

@[simp] theorem State.takeGap_part (s : State) (pt : Part)
    (h : pt ∉ ([.zones] : List Part)) :
    (State.takeGap s).part pt = s.part pt := by
  simp only [List.mem_cons, List.not_mem_nil, or_false] at h
  unfold State.takeGap
  dsimp only
  simp [h]

@[simp] theorem State.setBlower_part (s : State) (z : ZoneNo) (pt : Part)
    (h : pt ∉ ([.zones] : List Part)) :
    (State.setBlower s z).part pt = s.part pt := by
  simp only [List.mem_cons, List.not_mem_nil, or_false] at h
  unfold State.setBlower
  dsimp only
  simp [h]

@[simp] theorem State.setBlowers_part (s : State) (zs : List ZoneNo) (pt : Part)
    (h : pt ∉ ([.zones] : List Part)) :
    (State.setBlowers s zs).part pt = s.part pt := by
  simp only [List.mem_cons, List.not_mem_nil, or_false] at h
  unfold State.setBlowers
  simp [h]

@[simp] theorem State.recomputeAir_part (s : State) (pt : Part)
    (h : pt ∉ ([.zones] : List Part)) :
    (State.recomputeAir s).part pt = s.part pt := by
  simp only [List.mem_cons, List.not_mem_nil, or_false] at h
  unfold State.recomputeAir
  dsimp only
  simp [h]

@[simp] theorem State.enterOff_part (s : State) (z : ZoneNo) (pt : Part)
    (h : pt ∉ ([.zones, .power, .elements, .counters, .notices] : List Part)) :
    (State.enterOff s z).part pt = s.part pt := by
  simp only [List.mem_cons, List.not_mem_nil, or_false, not_or] at h
  unfold State.enterOff
  simp [h]

@[simp] theorem State.leaveOff_part (s : State) (z : ZoneNo) (pt : Part)
    (h : pt ∉ ([.zones] : List Part)) :
    (State.leaveOff s z).part pt = s.part pt := by
  simp only [List.mem_cons, List.not_mem_nil, or_false] at h
  unfold State.leaveOff
  dsimp only
  simp [h]

@[simp] theorem State.takeOffReason_part (s : State) (z : ZoneNo) (pt : Part)
    (h : pt ∉ ([.zones, .power, .elements, .counters, .notices] : List Part)) :
    (State.takeOffReason s z).part pt = s.part pt := by
  simp only [List.mem_cons, List.not_mem_nil, or_false, not_or] at h
  unfold State.takeOffReason
  (repeat' split) <;> simp [h]

@[simp] theorem State.regulate_part (s : State) (pt : Part)
    (h : pt ∉ ([.zones, .power, .elements, .counters, .notices] : List Part)) :
    (State.regulate s).part pt = s.part pt := by
  simp only [List.mem_cons, List.not_mem_nil, or_false, not_or] at h
  unfold State.regulate
  dsimp only
  simp [h]

/-! ### Door Draft Controller -/

@[simp] theorem State.setCurtain_part (s : State) (d : DoorNo) (pt : Part)
    (h : pt ∉ ([.doors] : List Part)) :
    (State.setCurtain s d).part pt = s.part pt := by
  simp only [List.mem_cons, List.not_mem_nil, or_false] at h
  unfold State.setCurtain
  dsimp only
  simp [h]

@[simp] theorem State.postDoorParts_part (s : State) (pt : Part)
    (h : pt ∉ ([.doors, .power, .elements, .counters, .notices] : List Part)) :
    (State.postDoorParts s).part pt = s.part pt := by
  simp only [List.mem_cons, List.not_mem_nil, or_false, not_or] at h
  unfold State.postDoorParts
  dsimp only
  simp [h]

@[simp] theorem State.recomputeCurtainsOf_part (s : State) (ds : List DoorNo) (pt : Part)
    (h : pt ∉ ([.doors, .power, .elements, .counters, .notices] : List Part)) :
    (State.recomputeCurtainsOf s ds).part pt = s.part pt := by
  simp only [List.mem_cons, List.not_mem_nil, or_false, not_or] at h
  unfold State.recomputeCurtainsOf
  dsimp only
  (repeat' split) <;> simp [h]

@[simp] theorem State.recomputeCurtains_part (s : State) (pt : Part)
    (h : pt ∉ ([.doors, .power, .elements, .counters, .notices] : List Part)) :
    (State.recomputeCurtains s).part pt = s.part pt :=
  State.recomputeCurtainsOf_part s _ pt h

@[simp] theorem State.doorChanged_part (s : State) (d : DoorNo) (pt : Part)
    (h : pt ∉ ([.zones, .doors, .power, .elements, .counters, .notices] : List Part)) :
    (State.doorChanged s d).part pt = s.part pt := by
  simp only [List.mem_cons, List.not_mem_nil, or_false, not_or] at h
  unfold State.doorChanged
  dsimp only
  simp [h]

@[simp] theorem State.enterClosed_part (s : State) (d : DoorNo) (pt : Part)
    (h : pt ∉ ([.zones, .doors, .power, .elements, .counters, .notices] : List Part)) :
    (State.enterClosed s d).part pt = s.part pt := by
  simp only [List.mem_cons, List.not_mem_nil, or_false, not_or] at h
  unfold State.enterClosed
  simp [h]

@[simp] theorem State.enterArmed_part (s : State) (d : DoorNo) (pt : Part)
    (h : pt ∉ ([.zones, .doors, .power, .elements, .counters, .notices] : List Part)) :
    (State.enterArmed s d).part pt = s.part pt := by
  simp only [List.mem_cons, List.not_mem_nil, or_false, not_or] at h
  unfold State.enterArmed
  simp [h]

@[simp] theorem State.enterOpen_part (s : State) (d : DoorNo) (pt : Part)
    (h : pt ∉ ([.zones, .doors, .power, .elements, .counters, .notices] : List Part)) :
    (State.enterOpen s d).part pt = s.part pt := by
  simp only [List.mem_cons, List.not_mem_nil, or_false, not_or] at h
  unfold State.enterOpen
  dsimp only
  simp [h]

@[simp] theorem State.enterHeld_part (s : State) (d : DoorNo) (pt : Part)
    (h : pt ∉ ([.zones, .doors, .power, .elements, .counters, .notices] : List Part)) :
    (State.enterHeld s d).part pt = s.part pt := by
  simp only [List.mem_cons, List.not_mem_nil, or_false, not_or] at h
  unfold State.enterHeld
  dsimp only
  simp [h]

@[simp] theorem State.enterTrailing_part (s : State) (d : DoorNo) (pt : Part)
    (h : pt ∉ ([.zones, .doors, .power, .elements, .counters, .notices] : List Part)) :
    (State.enterTrailing s d).part pt = s.part pt := by
  simp only [List.mem_cons, List.not_mem_nil, or_false, not_or] at h
  unfold State.enterTrailing
  dsimp only
  (repeat' split) <;> simp [h]

@[simp] theorem State.leaveTrailing_part (s : State) (d : DoorNo) (pt : Part)
    (h : pt ∉ ([.zones, .doors, .power, .elements, .counters, .notices] : List Part)) :
    (State.leaveTrailing s d).part pt = s.part pt := by
  simp only [List.mem_cons, List.not_mem_nil, or_false, not_or] at h
  unfold State.leaveTrailing
  (repeat' split) <;> simp [h]

@[simp] theorem State.drOpens_part (s : State) (d : DoorNo) (pt : Part)
    (h : pt ∉ ([.zones, .doors, .power, .elements, .counters, .notices] : List Part)) :
    (State.drOpens s d).part pt = s.part pt := by
  simp only [List.mem_cons, List.not_mem_nil, or_false, not_or] at h
  unfold State.drOpens
  (repeat' split) <;> simp [h]

@[simp] theorem State.drCloses_part (s : State) (d : DoorNo) (pt : Part)
    (h : pt ∉ ([.zones, .doors, .power, .elements, .counters, .notices] : List Part)) :
    (State.drCloses s d).part pt = s.part pt := by
  simp only [List.mem_cons, List.not_mem_nil, or_false, not_or] at h
  unfold State.drCloses
  (repeat' split) <;> simp [h]

@[simp] theorem State.relMoves_part (s : State) (active : Bool) (d : DoorNo) (pt : Part)
    (h : pt ∉ ([.zones, .doors, .power, .elements, .counters, .notices] : List Part)) :
    (State.relMoves s active d).part pt = s.part pt := by
  simp only [List.mem_cons, List.not_mem_nil, or_false, not_or] at h
  unfold State.relMoves
  (repeat' split) <;> simp [h]

@[simp] theorem State.relChanged_part (s : State) (active : Bool) (pt : Part)
    (h : pt ∉ ([.zones, .doors, .power, .elements, .counters, .notices] : List Part)) :
    (State.relChanged s active).part pt = s.part pt := by
  simp only [List.mem_cons, List.not_mem_nil, or_false, not_or] at h
  unfold State.relChanged
  simp [h]

@[simp] theorem State.doorOutOfUse_part (s : State) (d : DoorNo) (pt : Part)
    (h : pt ∉ ([.zones, .doors, .power, .elements, .counters, .notices] : List Part)) :
    (State.doorOutOfUse s d).part pt = s.part pt := by
  simp only [List.mem_cons, List.not_mem_nil, or_false, not_or] at h
  unfold State.doorOutOfUse
  dsimp only
  split <;> simp [h]

/-- A CLOSED door out of use makes no state change: the Zone Regulator is left alone. -/
theorem State.doorOutOfUse_closed_part (s : State) (d : DoorNo) (pt : Part)
    (hd : (s.door d).state = .closed)
    (h : pt ∉ ([.doors, .power, .elements, .counters, .notices] : List Part)) :
    (State.doorOutOfUse s d).part pt = s.part pt := by
  simp only [List.mem_cons, List.not_mem_nil, or_false, not_or] at h
  unfold State.doorOutOfUse
  simp [hd, h]

@[simp] theorem State.doorInUse_part (s : State) (d : DoorNo) (pt : Part)
    (h : pt ∉ ([.doors, .power, .elements, .counters, .notices] : List Part)) :
    (State.doorInUse s d).part pt = s.part pt := by
  simp only [List.mem_cons, List.not_mem_nil, or_false, not_or] at h
  unfold State.doorInUse
  simp [h]

@[simp] theorem State.heldExpiry_part (s : State) (d : DoorNo) (pt : Part)
    (h : pt ∉ ([.zones, .doors, .power, .elements, .counters, .notices] : List Part)) :
    (State.heldExpiry s d).part pt = s.part pt := by
  simp only [List.mem_cons, List.not_mem_nil, or_false, not_or] at h
  unfold State.heldExpiry
  (repeat' split) <;> simp [h]

@[simp] theorem State.trailingExpiry_part (s : State) (d : DoorNo) (pt : Part)
    (h : pt ∉ ([.zones, .doors, .power, .elements, .counters, .notices] : List Part)) :
    (State.trailingExpiry s d).part pt = s.part pt := by
  simp only [List.mem_cons, List.not_mem_nil, or_false, not_or] at h
  unfold State.trailingExpiry
  dsimp only
  (repeat' split) <;> simp [h]

@[simp] theorem State.decayExpiry_part (s : State) (d : DoorNo) (pt : Part)
    (h : pt ∉ ([.zones, .doors, .power, .elements, .counters, .notices] : List Part)) :
    (State.decayExpiry s d).part pt = s.part pt := by
  simp only [List.mem_cons, List.not_mem_nil, or_false, not_or] at h
  unfold State.decayExpiry
  dsimp only
  (repeat' split) <;> simp [h]

@[simp] theorem State.doorTick_part (s : State) (pt : Part)
    (h : pt ∉ ([.doors, .power, .elements, .counters, .notices] : List Part)) :
    (State.doorTick s).part pt = s.part pt := by
  simp only [List.mem_cons, List.not_mem_nil, or_false, not_or] at h
  unfold State.doorTick
  dsimp only
  (repeat' split) <;> simp [h]

@[simp] theorem State.doorSecond_part (s : State) (d : DoorNo) (pt : Part)
    (h : pt ∉ ([.doors, .counters, .notices] : List Part)) :
    (State.doorSecond s d).part pt = s.part pt := by
  simp only [List.mem_cons, List.not_mem_nil, or_false, not_or] at h
  unfold State.doorSecond
  (repeat' split) <;> simp [h]

/-! ### Line, envelope, inputs -/

@[simp] theorem State.allOff_part (s : State) (pt : Part)
    (h : pt ∉ ([.elements, .counters, .notices] : List Part)) :
    (State.allOff s).part pt = s.part pt := by
  simp only [List.mem_cons, List.not_mem_nil, or_false, not_or] at h
  unfold State.allOff
  dsimp only
  simp [h]

@[simp] theorem State.zeroGrants_part (s : State) (pt : Part)
    (h : pt ∉ ([.power] : List Part)) :
    (State.zeroGrants s).part pt = s.part pt := by
  simp only [List.mem_cons, List.not_mem_nil, or_false] at h
  unfold State.zeroGrants
  dsimp only
  simp [h]

@[simp] theorem State.gapEntry_part (s : State) (pt : Part)
    (h : pt ∉ ([.zones, .power, .elements, .counters, .notices] : List Part)) :
    (State.gapEntry s).part pt = s.part pt := by
  simp only [List.mem_cons, List.not_mem_nil, or_false, not_or] at h
  unfold State.gapEntry
  dsimp only
  (repeat' split) <;> simp [h]

@[simp] theorem State.dewire_part (s : State) (pt : Part)
    (h : pt ∉ ([.power, .elements, .counters, .notices] : List Part)) :
    (State.dewire s).part pt = s.part pt := by
  simp only [List.mem_cons, List.not_mem_nil, or_false, not_or] at h
  unfold State.dewire
  dsimp only
  simp [h]

@[simp] theorem State.lineReturn_part (s : State) (pt : Part)
    (h : pt ∉ ([.zones, .power, .elements, .counters, .notices] : List Part)) :
    (State.lineReturn s).part pt = s.part pt := by
  simp only [List.mem_cons, List.not_mem_nil, or_false, not_or] at h
  unfold State.lineReturn
  dsimp only
  (repeat' split) <;> simp [h]

@[simp] theorem State.lineChanged_part (s : State) (f : Filtered) (pt : Part)
    (h : pt ∉ ([.zones, .power, .elements, .counters, .notices] : List Part)) :
    (State.lineChanged s f).part pt = s.part pt := by
  simp only [List.mem_cons, List.not_mem_nil, or_false, not_or] at h
  unfold State.lineChanged
  (repeat' split) <;> simp [h]

@[simp] theorem State.dewireExpiry_part (s : State) (pt : Part)
    (h : pt ∉ ([.power, .elements, .counters, .notices] : List Part)) :
    (State.dewireExpiry s).part pt = s.part pt := by
  simp only [List.mem_cons, List.not_mem_nil, or_false, not_or] at h
  unfold State.dewireExpiry
  (repeat' split) <;> simp [h]

@[simp] theorem State.setEnvelope_part (s : State) (e : Nat) (st : EnvelopeState) (t : Timer) (pt :
    Part)
    (h : pt ∉ ([.power] : List Part)) :
    (State.setEnvelope s e st t).part pt = s.part pt := by
  simp only [List.mem_cons, List.not_mem_nil, or_false] at h
  unfold State.setEnvelope
  dsimp only
  simp [h]

@[simp] theorem State.lapse_part (s : State) (pt : Part)
    (h : pt ∉ ([.power, .elements, .counters, .notices] : List Part)) :
    (State.lapse s).part pt = s.part pt := by
  simp only [List.mem_cons, List.not_mem_nil, or_false, not_or] at h
  unfold State.lapse
  dsimp only
  (repeat' split) <;> simp [h]

@[simp] theorem State.envelopeExpiry_part (s : State) (pt : Part)
    (h : pt ∉ ([.power, .elements, .counters, .notices] : List Part)) :
    (State.envelopeExpiry s).part pt = s.part pt := by
  simp only [List.mem_cons, List.not_mem_nil, or_false, not_or] at h
  unfold State.envelopeExpiry
  (repeat' split) <;> simp [h]

@[simp] theorem State.restoreStep_part (s : State) (pt : Part)
    (h : pt ∉ ([.power, .elements, .counters, .notices] : List Part)) :
    (State.restoreStep s).part pt = s.part pt := by
  simp only [List.mem_cons, List.not_mem_nil, or_false, not_or] at h
  unfold State.restoreStep
  dsimp only
  (repeat' split) <;> simp [h]

@[simp] theorem State.offer_part (s : State) (offered window : Nat) (pt : Part)
    (h : pt ∉ ([.power, .elements, .counters, .notices] : List Part)) :
    (State.offer s offered window).part pt = s.part pt := by
  simp only [List.mem_cons, List.not_mem_nil, or_false, not_or] at h
  unfold State.offer
  dsimp only
  (repeat' split) <;> simp [h]

@[simp] theorem State.windowEnd_part (s : State) (pt : Part)
    (h : pt ∉ ([.power, .elements, .counters, .notices] : List Part)) :
    (State.windowEnd s).part pt = s.part pt := by
  simp only [List.mem_cons, List.not_mem_nil, or_false, not_or] at h
  unfold State.windowEnd
  (repeat' split) <;> simp [h]

@[simp] theorem State.energyReading_part (s : State) (pt : Part)
    (h : pt ∉ ([.power, .counters, .notices] : List Part)) :
    (State.energyReading s).part pt = s.part pt := by
  simp only [List.mem_cons, List.not_mem_nil, or_false, not_or] at h
  unfold State.energyReading
  dsimp only
  (repeat' split) <;> simp [h]

@[simp] theorem State.shortfallExpiry_part (s : State) (c : HeatClass) (pt : Part)
    (h : pt ∉ ([.power, .notices] : List Part)) :
    (State.shortfallExpiry s c).part pt = s.part pt := by
  simp only [List.mem_cons, List.not_mem_nil, or_false, not_or] at h
  unfold State.shortfallExpiry
  (repeat' split) <;> simp [h]

@[simp] theorem State.allocationExpiry_part (s : State) (pt : Part)
    (h : pt ∉ ([.power, .elements, .counters, .notices] : List Part)) :
    (State.allocationExpiry s).part pt = s.part pt := by
  simp only [List.mem_cons, List.not_mem_nil, or_false, not_or] at h
  unfold State.allocationExpiry
  dsimp only
  (repeat' split) <;> simp [h]

@[simp] theorem State.handFiltered_part (s : State) (i : InputNo) (f : Filtered) (pt : Part)
    (h : pt ∉ ([.zones, .doors, .power, .elements, .counters, .notices] : List Part)) :
    (State.handFiltered s i f).part pt = s.part pt := by
  simp only [List.mem_cons, List.not_mem_nil, or_false, not_or] at h
  unfold State.handFiltered
  (repeat' split) <;> simp [h]

@[simp] theorem State.settleInput_part (s : State) (i : InputNo) (pt : Part)
    (h : pt ∉ ([.zones, .inputs, .doors, .power, .elements, .counters, .notices] : List Part)) :
    (State.settleInput s i).part pt = s.part pt := by
  simp only [List.mem_cons, List.not_mem_nil, or_false, not_or] at h
  unfold State.settleInput
  dsimp only
  (repeat' split) <;> simp [h]

@[simp] theorem State.rawChange_part (s : State) (i : InputNo) (l : PinLevel) (pt : Part)
    (h : pt ∉ ([.zones, .inputs, .doors, .power, .elements, .counters, .notices] : List Part)) :
    (State.rawChange s i l).part pt = s.part pt := by
  simp only [List.mem_cons, List.not_mem_nil, or_false, not_or] at h
  unfold State.rawChange
  dsimp only
  (repeat' split) <;> simp [h]

@[simp] theorem State.inputOff_part (s : State) (i : InputNo) (pt : Part)
    (h : pt ∉ ([.zones, .inputs, .doors, .power, .elements, .counters, .notices] : List Part)) :
    (State.inputOff s i).part pt = s.part pt := by
  simp only [List.mem_cons, List.not_mem_nil, or_false, not_or] at h
  unfold State.inputOff
  dsimp only
  (repeat' split) <;> simp [h]

@[simp] theorem State.inputOn_part (s : State) (i : InputNo) (pt : Part)
    (h : pt ∉ ([.zones, .inputs, .doors, .power, .elements, .counters, .notices] : List Part)) :
    (State.inputOn s i).part pt = s.part pt := by
  simp only [List.mem_cons, List.not_mem_nil, or_false, not_or] at h
  unfold State.inputOn
  dsimp only
  (repeat' split) <;> simp [h]

@[simp] theorem State.polarityChanged_part (s : State) (i : InputNo) (pt : Part)
    (h : pt ∉ ([.zones, .inputs, .doors, .power, .elements, .counters, .notices] : List Part)) :
    (State.polarityChanged s i).part pt = s.part pt := by
  simp only [List.mem_cons, List.not_mem_nil, or_false, not_or] at h
  unfold State.polarityChanged
  simp [h]

/-! ### Screen Controller -/

@[simp] theorem State.postScreen_part (s : State) (pt : Part)
    (h : pt ∉ ([.screen, .power, .elements, .counters, .notices] : List Part)) :
    (State.postScreen s).part pt = s.part pt := by
  simp only [List.mem_cons, List.not_mem_nil, or_false, not_or] at h
  unfold State.postScreen
  dsimp only
  simp [h]

@[simp] theorem State.airEntries_part (s : State) (request : Bool) (pt : Part)
    (h : pt ∉ ([.overrides] : List Part)) :
    (State.airEntries s request).part pt = s.part pt := by
  simp only [List.mem_cons, List.not_mem_nil, or_false] at h
  unfold State.airEntries
  (repeat' split) <;> simp [h]

@[simp] theorem State.screenHandsOn_part (s : State) (changes request : Bool) (pt : Part)
    (h : pt ∉ ([.zones, .overrides] : List Part)) :
    (State.screenHandsOn s changes request).part pt = s.part pt := by
  simp only [List.mem_cons, List.not_mem_nil, or_false, not_or] at h
  unfold State.screenHandsOn
  split <;> simp [h]

@[simp] theorem State.demistBegins_part (s : State) (pt : Part)
    (h : pt ∉ ([.counters, .notices] : List Part)) :
    (State.demistBegins s).part pt = s.part pt := by
  simp only [List.mem_cons, List.not_mem_nil, or_false, not_or] at h
  unfold State.demistBegins
  simp [h]

@[simp] theorem State.changeScreen_part (s : State) (st : ScreenState) (am : Option ActingMode) (pt
    : Part)
    (h : pt ∉ ([.zones, .screen, .overrides, .power, .elements, .counters, .notices] : List Part)) :
    (State.changeScreen s st am).part pt = s.part pt := by
  simp only [List.mem_cons, List.not_mem_nil, or_false, not_or] at h
  unfold State.changeScreen
  dsimp only
  (repeat' split) <;> simp [h]

@[simp] theorem State.takeFailsafe_part (s : State) (pt : Part)
    (h : pt ∉ ([.zones, .screen, .overrides, .power, .elements, .counters, .notices] : List Part)) :
    (State.takeFailsafe s).part pt = s.part pt := by
  simp only [List.mem_cons, List.not_mem_nil, or_false, not_or] at h
  unfold State.takeFailsafe
  simp [h]

@[simp] theorem State.actingOnTo_part (s : State) (pt : Part)
    (h : pt ∉ ([.zones, .screen, .overrides, .power, .elements, .counters, .notices] : List Part)) :
    (State.actingOnTo s).part pt = s.part pt := by
  simp only [List.mem_cons, List.not_mem_nil, or_false, not_or] at h
  unfold State.actingOnTo
  (repeat' split) <;> simp [h]

@[simp] theorem State.takeQualities_part (s : State) (pt : Part)
    (h : pt ∉ ([.screen] : List Part)) :
    (State.takeQualities s).part pt = s.part pt := by
  simp only [List.mem_cons, List.not_mem_nil, or_false] at h
  unfold State.takeQualities
  dsimp only
  simp [h]

@[simp] theorem State.measure_part (s : State) (pt : Part)
    (h : pt ∉ ([.screen] : List Part)) :
    (State.measure s).part pt = s.part pt := by
  simp only [List.mem_cons, List.not_mem_nil, or_false] at h
  unfold State.measure
  dsimp only
  simp [h]

@[simp] theorem State.takeThresholds_part (s : State) (pt : Part)
    (h : pt ∉ ([.screen] : List Part)) :
    (State.takeThresholds s).part pt = s.part pt := by
  simp only [List.mem_cons, List.not_mem_nil, or_false] at h
  unfold State.takeThresholds
  dsimp only
  simp [h]

@[simp] theorem State.takeThresholds_sc (s : State) :
    s.takeThresholds.sc = { s.sc with mWatch := s.cfg.mWatch, mOn := s.cfg.mOn } := rfl

@[simp] theorem State.takeDictated_part (s : State) (pt : Part)
    (h : pt ∉ ([.zones, .screen, .overrides, .power, .elements, .counters, .notices] : List Part)) :
    (State.takeDictated s).part pt = s.part pt := by
  simp only [List.mem_cons, List.not_mem_nil, or_false, not_or] at h
  unfold State.takeDictated
  (repeat' split) <;> simp [h]

@[simp] theorem State.onQuality_part (s : State) (pt : Part)
    (h : pt ∉ ([.zones, .screen, .overrides, .power, .elements, .counters, .notices] : List Part)) :
    (State.onQuality s).part pt = s.part pt := by
  simp only [List.mem_cons, List.not_mem_nil, or_false, not_or] at h
  unfold State.onQuality
  dsimp only
  (repeat' split) <;> simp [h]

@[simp] theorem State.dropFilmSurplus_part (s : State) (pt : Part)
    (h : pt ∉ ([.power, .elements] : List Part)) :
    (State.dropFilmSurplus s).part pt = s.part pt := by
  simp only [List.mem_cons, List.not_mem_nil, or_false, not_or] at h
  unfold State.dropFilmSurplus
  (repeat' split) <;> simp [h]

@[simp] theorem State.latchTest_part (s : State) (pt : Part)
    (h : pt ∉ ([.screen, .power, .elements, .counters, .notices] : List Part)) :
    (State.latchTest s).part pt = s.part pt := by
  simp only [List.mem_cons, List.not_mem_nil, or_false, not_or] at h
  unfold State.latchTest
  dsimp only
  (repeat' split) <;> simp [h]

@[simp] theorem State.glassTest_part (s : State) (pt : Part)
    (h : pt ∉ ([.screen] : List Part)) :
    (State.glassTest s).part pt = s.part pt := by
  simp only [List.mem_cons, List.not_mem_nil, or_false] at h
  unfold State.glassTest
  dsimp only
  (repeat' split) <;> simp [h]

@[simp] theorem State.exitHoldTest_part (s : State) (m : Int) (pt : Part)
    (h : pt ∉ ([.screen] : List Part)) :
    (State.exitHoldTest s m).part pt = s.part pt := by
  simp only [List.mem_cons, List.not_mem_nil, or_false] at h
  unfold State.exitHoldTest
  dsimp only
  (repeat' split) <;> simp [h]

@[simp] theorem State.marginTest_part (s : State) (pt : Part)
    (h : pt ∉ ([.zones, .screen, .overrides, .power, .elements, .counters, .notices] : List Part)) :
    (State.marginTest s).part pt = s.part pt := by
  simp only [List.mem_cons, List.not_mem_nil, or_false, not_or] at h
  unfold State.marginTest
  (repeat' split) <;> simp [h]

@[simp] theorem State.failsafeTest_part (s : State) (pt : Part)
    (h : pt ∉ ([.zones, .screen, .overrides, .power, .elements, .counters, .notices] : List Part)) :
    (State.failsafeTest s).part pt = s.part pt := by
  simp only [List.mem_cons, List.not_mem_nil, or_false, not_or] at h
  unfold State.failsafeTest
  (repeat' split) <;> simp [h]

@[simp] theorem State.screenCompute_part (s : State) (pt : Part)
    (h : pt ∉ ([.zones, .screen, .overrides, .power, .elements, .counters, .notices] : List Part)) :
    (State.screenCompute s).part pt = s.part pt := by
  simp only [List.mem_cons, List.not_mem_nil, or_false, not_or] at h
  unfold State.screenCompute
  dsimp only
  (repeat' split) <;> simp [h]

@[simp] theorem State.enterDefrost_part (s : State) (origin : DefrostOrigin) (duration : Nat) (pt :
    Part)
    (h : pt ∉ ([.zones, .screen, .overrides, .power, .elements, .counters, .notices] : List Part)) :
    (State.enterDefrost s origin duration).part pt = s.part pt := by
  simp only [List.mem_cons, List.not_mem_nil, or_false, not_or] at h
  unfold State.enterDefrost
  dsimp only
  simp [h]

@[simp] theorem State.coldStart_part (s : State) (pt : Part)
    (h : pt ∉ ([.zones, .screen, .overrides, .power, .elements, .counters, .notices] : List Part)) :
    (State.coldStart s).part pt = s.part pt := by
  simp only [List.mem_cons, List.not_mem_nil, or_false, not_or] at h
  unfold State.coldStart
  dsimp only
  (repeat' split) <;> simp [h]

@[simp] theorem State.deleteDefrost_part (s : State) (pt : Part)
    (h : pt ∉ ([.overrides] : List Part)) :
    (State.deleteDefrost s).part pt = s.part pt := by
  simp only [List.mem_cons, List.not_mem_nil, or_false] at h
  unfold State.deleteDefrost
  (repeat' split) <;> simp [h]

@[simp] theorem State.endDefrost_part (s : State) (cause : DefrostEnd) (pt : Part)
    (h : pt ∉ ([.zones, .screen, .overrides, .power, .elements, .counters, .notices] : List Part)) :
    (State.endDefrost s cause).part pt = s.part pt := by
  simp only [List.mem_cons, List.not_mem_nil, or_false, not_or] at h
  unfold State.endDefrost
  dsimp only
  (repeat' split) <;> simp [h]

@[simp] theorem State.exitHoldExpiry_part (s : State) (pt : Part)
    (h : pt ∉ ([.zones, .screen, .overrides, .power, .elements, .counters, .notices] : List Part)) :
    (State.exitHoldExpiry s).part pt = s.part pt := by
  simp only [List.mem_cons, List.not_mem_nil, or_false, not_or] at h
  unfold State.exitHoldExpiry
  (repeat' split) <;> simp [h]

@[simp] theorem State.defrostExpiry_part (s : State) (pt : Part)
    (h : pt ∉ ([.zones, .screen, .overrides, .power, .elements, .counters, .notices] : List Part)) :
    (State.defrostExpiry s).part pt = s.part pt := by
  simp only [List.mem_cons, List.not_mem_nil, or_false, not_or] at h
  unfold State.defrostExpiry
  (repeat' split) <;> simp [h]

@[simp] theorem State.glassHoldExpiry_part (s : State) (pt : Part)
    (h : pt ∉ ([.zones, .screen, .overrides, .power, .elements, .counters, .notices] : List Part)) :
    (State.glassHoldExpiry s).part pt = s.part pt := by
  simp only [List.mem_cons, List.not_mem_nil, or_false, not_or] at h
  unfold State.glassHoldExpiry
  (repeat' split) <;> simp [h]

/-! ### Override Table -/

@[simp] theorem State.reply_part (s : State) (st : Status) (fields : List Byte) (pt : Part) :
    (State.reply s st fields).1.part pt = s.part pt := by
  rfl

@[simp] theorem State.refuse_part (s : State) (st : Status) (pt : Part) :
    (State.refuse s st).1.part pt = s.part pt := by
  rfl

@[simp] theorem State.handScreen_part (s : State) (placed : Option (Option Int)) (pt : Part)
    (h : pt ∉ ([.zones, .screen, .overrides, .power, .elements, .counters, .notices] : List Part)) :
    (State.handScreen s placed).part pt = s.part pt := by
  simp only [List.mem_cons, List.not_mem_nil, or_false, not_or] at h
  unfold State.handScreen
  (repeat' split) <;> simp [h]

@[simp] theorem State.handZones_part (s before : State) (pt : Part)
    (h : pt ∉ ([.zones, .power, .elements, .counters, .notices] : List Part)) :
    (State.handZones s before).part pt = s.part pt := by
  simp only [List.mem_cons, List.not_mem_nil, or_false, not_or] at h
  unfold State.handZones
  simp [h]

@[simp] theorem State.handClamps_part (s before : State) (pt : Part)
    (h : pt ∉ ([.power, .elements, .counters, .notices] : List Part)) :
    (State.handClamps s before).part pt = s.part pt := by
  simp only [List.mem_cons, List.not_mem_nil, or_false, not_or] at h
  unfold State.handClamps
  simp [h]

@[simp] theorem State.handCurtains_part (s before : State) (pt : Part)
    (h : pt ∉ ([.doors, .power, .elements, .counters, .notices] : List Part)) :
    (State.handCurtains s before).part pt = s.part pt := by
  simp only [List.mem_cons, List.not_mem_nil, or_false, not_or] at h
  unfold State.handCurtains
  (repeat' split) <;> simp [h]

@[simp] theorem State.handOn_part (s before : State) (placed : Option (Option Int)) (pt : Part)
    (h : pt ∉ ([.zones, .screen, .doors, .overrides, .power, .elements, .counters, .notices] : List
    Part)) :
    (State.handOn s before placed).part pt = s.part pt := by
  simp only [List.mem_cons, List.not_mem_nil, or_false, not_or] at h
  unfold State.handOn
  simp [h]

@[simp] theorem State.renumber_part (s : State) (pt : Part)
    (h : pt ∉ ([.overrides] : List Part)) :
    (State.renumber s).part pt = s.part pt := by
  simp only [List.mem_cons, List.not_mem_nil, or_false] at h
  unfold State.renumber
  dsimp only
  simp [h]

@[simp] theorem State.nextSequence_part (s : State) (pt : Part)
    (h : pt ∉ ([.overrides] : List Part)) :
    (State.nextSequence s).part pt = s.part pt := by
  simp only [List.mem_cons, List.not_mem_nil, or_false] at h
  unfold State.nextSequence
  dsimp only
  (repeat' split) <;> simp [h]

@[simp] theorem State.putPlacement_part (s : State) (x : Placement) (at_ : EntryNo) (pt : Part)
    (h : pt ∉ ([.overrides, .counters, .notices] : List Part)) :
    (State.putPlacement s x at_).part pt = s.part pt := by
  simp only [List.mem_cons, List.not_mem_nil, or_false, not_or] at h
  unfold State.putPlacement
  simp [h]

@[simp] theorem State.placeOverride_part (s : State) (p : Port) (body : List Byte) (pt : Part)
    (h : pt ∉ ([.zones, .screen, .doors, .overrides, .power, .elements, .counters, .notices] : List
    Part)) :
    (State.placeOverride s p body).1.part pt = s.part pt := by
  simp only [List.mem_cons, List.not_mem_nil, or_false, not_or] at h
  unfold State.placeOverride
  dsimp only
  (repeat' split) <;> simp [h]

@[simp] theorem State.removeEntry_part (s : State) (e : EntryNo) (pt : Part)
    (h : pt ∉ ([.zones, .screen, .doors, .overrides, .power, .elements, .counters, .notices] : List
    Part)) :
    (State.removeEntry s e).part pt = s.part pt := by
  simp only [List.mem_cons, List.not_mem_nil, or_false, not_or] at h
  unfold State.removeEntry
  simp [h]

@[simp] theorem State.cancelOverride_part (s : State) (p : Port) (body : List Byte) (pt : Part)
    (h : pt ∉ ([.zones, .screen, .doors, .overrides, .power, .elements, .counters, .notices] : List
    Part)) :
    (State.cancelOverride s p body).1.part pt = s.part pt := by
  simp only [List.mem_cons, List.not_mem_nil, or_false, not_or] at h
  unfold State.cancelOverride
  (repeat' split) <;> simp [h]

@[simp] theorem State.dropDesk_part (s : State) (pt : Part)
    (h : pt ∉ ([.overrides] : List Part)) :
    (State.dropDesk s).part pt = s.part pt := by
  simp only [List.mem_cons, List.not_mem_nil, or_false] at h
  unfold State.dropDesk
  dsimp only
  simp [h]

@[simp] theorem State.shiftChange_part (s : State) (pt : Part)
    (h : pt ∉ ([.zones, .screen, .doors, .overrides, .power, .elements, .counters, .notices] : List
    Part)) :
    (State.shiftChange s).1.part pt = s.part pt := by
  simp only [List.mem_cons, List.not_mem_nil, or_false, not_or] at h
  unfold State.shiftChange
  simp [h]

@[simp] theorem State.entryExpiry_part (s : State) (e : EntryNo) (pt : Part)
    (h : pt ∉ ([.zones, .screen, .doors, .overrides, .power, .elements, .counters, .notices] : List
    Part)) :
    (State.entryExpiry s e).part pt = s.part pt := by
  simp only [List.mem_cons, List.not_mem_nil, or_false, not_or] at h
  unfold State.entryExpiry
  (repeat' split) <;> simp [h]

@[simp] theorem State.groupChanged_part (s before : State) (g : Fin 8) (pt : Part)
    (h : pt ∉ ([.zones, .screen, .doors, .overrides, .power, .elements, .counters, .notices] : List
    Part)) :
    (State.groupChanged s before g).part pt = s.part pt := by
  simp only [List.mem_cons, List.not_mem_nil, or_false, not_or] at h
  unfold State.groupChanged
  dsimp only
  (repeat' split) <;> simp [h]

/-! ### Sample Table -/

@[simp] theorem State.enterSample_part (s : State) (x : ValueId × Checked) (pt : Part)
    (h : pt ∉ ([.samples] : List Part)) :
    (State.enterSample s x).part pt = s.part pt := by
  simp only [List.mem_cons, List.not_mem_nil, or_false] at h
  unfold State.enterSample
  (repeat' split) <;> simp [h]

@[simp] theorem State.reselect_part (s : State) (pt : Part)
    (h : pt ∉ ([.samples] : List Part)) :
    (State.reselect s).part pt = s.part pt := by
  simp only [List.mem_cons, List.not_mem_nil, or_false] at h
  unfold State.reselect
  dsimp only
  simp [h]

@[simp] theorem State.toReaders_part (s before : State) (pt : Part)
    (h : pt ∉ ([.zones, .screen, .doors, .overrides, .power, .elements, .counters, .notices] : List
    Part)) :
    (State.toReaders s before).part pt = s.part pt := by
  simp only [List.mem_cons, List.not_mem_nil, or_false, not_or] at h
  unfold State.toReaders
  (repeat' split) <;> simp [h]

@[simp] theorem State.recordsChanged_part (s before : State) (pt : Part)
    (h : pt ∉ ([.samples, .zones, .screen, .doors, .overrides, .power, .elements, .counters,
    .notices] : List Part)) :
    (State.recordsChanged s before).part pt = s.part pt := by
  simp only [List.mem_cons, List.not_mem_nil, or_false, not_or] at h
  unfold State.recordsChanged
  dsimp only
  (repeat' split) <;> simp [h]

@[simp] theorem State.enterFrame_part (s : State) (n : Node) (b : SampleBody) (pt : Part)
    (h : pt ∉ ([.samples] : List Part)) :
    (State.enterFrame s n b).part pt = s.part pt := by
  simp only [List.mem_cons, List.not_mem_nil, or_false] at h
  unfold State.enterFrame
  dsimp only
  simp [h]

@[simp] theorem State.screenOnFrame_part (s before : State) (q : Node) (pt : Part)
    (h : pt ∉ ([.zones, .screen, .overrides, .power, .elements, .counters, .notices] : List Part)) :
    (State.screenOnFrame s before q).part pt = s.part pt := by
  simp only [List.mem_cons, List.not_mem_nil, or_false, not_or] at h
  unfold State.screenOnFrame
  (repeat' split) <;> simp [h]

@[simp] theorem State.screenOnFirst_part (s before : State) (n : Node) (pt : Part)
    (h : pt ∉ ([.zones, .screen, .overrides, .power, .elements, .counters, .notices, .free] : List
    Part)) :
    (State.screenOnFirst s before n).part pt = s.part pt := by
  simp only [List.mem_cons, List.not_mem_nil, or_false, not_or] at h
  unfold State.screenOnFirst
  dsimp only
  (repeat' split) <;> simp [h]

@[simp] theorem State.takeSamples_part (s : State) (n : Node) (b : SampleBody) (pt : Part)
    (h : pt ∉ ([.samples, .zones, .screen, .doors, .overrides, .power, .elements, .counters,
    .notices, .free] : List Part)) :
    (State.takeSamples s n b).part pt = s.part pt := by
  simp only [List.mem_cons, List.not_mem_nil, or_false, not_or] at h
  unfold State.takeSamples
  dsimp only
  (repeat' split) <;> simp [h]

@[simp] theorem State.holdExpiry_part (s : State) (v : ValueId) (pt : Part)
    (h : pt ∉ ([.samples, .zones, .screen, .doors, .overrides, .power, .elements, .counters,
    .notices] : List Part)) :
    (State.holdExpiry s v).part pt = s.part pt := by
  simp only [List.mem_cons, List.not_mem_nil, or_false, not_or] at h
  unfold State.holdExpiry
  (repeat' split) <;> simp [h]

@[simp] theorem State.degradeExpiry_part (s : State) (v : ValueId) (pt : Part)
    (h : pt ∉ ([.samples, .zones, .screen, .doors, .overrides, .power, .elements, .counters,
    .notices] : List Part)) :
    (State.degradeExpiry s v).part pt = s.part pt := by
  simp only [List.mem_cons, List.not_mem_nil, or_false, not_or] at h
  unfold State.degradeExpiry
  (repeat' split) <;> simp [h]

@[simp] theorem State.retime_part (s : State) (pt : Part)
    (h : pt ∉ ([.samples, .zones, .screen, .doors, .overrides, .power, .elements, .counters,
    .notices] : List Part)) :
    (State.retime s).part pt = s.part pt := by
  simp only [List.mem_cons, List.not_mem_nil, or_false, not_or] at h
  unfold State.retime
  simp [h]

@[simp] theorem State.fallbackChanged_part (s : State) (pt : Part)
    (h : pt ∉ ([.samples, .zones, .screen, .doors, .overrides, .power, .elements, .counters,
    .notices] : List Part)) :
    (State.fallbackChanged s).part pt = s.part pt := by
  simp only [List.mem_cons, List.not_mem_nil, or_false, not_or] at h
  unfold State.fallbackChanged
  simp [h]

/-! ### Elements -/

@[simp] theorem State.leaveTogether_part (s : State) (l : List SlotNo) (st : ElemState) (why :
    SlotNo → Option LockoutReason) (pt : Part)
    (h : pt ∉ ([.power, .elements, .counters, .notices] : List Part)) :
    (State.leaveTogether s l st why).part pt = s.part pt := by
  simp only [List.mem_cons, List.not_mem_nil, or_false, not_or] at h
  unfold State.leaveTogether
  dsimp only
  simp [h]

@[simp] theorem State.releaseElement_part (s : State) (i : SlotNo) (count : Nat) (pt : Part)
    (h : pt ∉ ([.power, .elements, .counters, .notices] : List Part)) :
    (State.releaseElement s i count).part pt = s.part pt := by
  simp only [List.mem_cons, List.not_mem_nil, or_false, not_or] at h
  unfold State.releaseElement
  dsimp only
  simp [h]

@[simp] theorem State.lockoutExpiry_part (s : State) (i : SlotNo) (pt : Part)
    (h : pt ∉ ([.power, .elements, .counters, .notices] : List Part)) :
    (State.lockoutExpiry s i).part pt = s.part pt := by
  simp only [List.mem_cons, List.not_mem_nil, or_false, not_or] at h
  unfold State.lockoutExpiry
  (repeat' split) <;> simp [h]

@[simp] theorem State.elementRelease_part (s : State) (body : List Byte) (pt : Part)
    (h : pt ∉ ([.power, .elements, .counters, .notices] : List Part)) :
    (State.elementRelease s body).1.part pt = s.part pt := by
  simp only [List.mem_cons, List.not_mem_nil, or_false, not_or] at h
  unfold State.elementRelease
  (repeat' split) <;> simp [h]

@[simp] theorem State.recordApplied_part (s : State) (b : EchoBody) (i : SlotNo) (pt : Part)
    (h : pt ∉ ([.elements] : List Part)) :
    (State.recordApplied s b i).part pt = s.part pt := by
  simp only [List.mem_cons, List.not_mem_nil, or_false] at h
  unfold State.recordApplied
  dsimp only
  simp [h]

@[simp] theorem State.heatTimer_part (s : State) (i : SlotNo) (pt : Part)
    (h : pt ∉ ([.elements] : List Part)) :
    (State.heatTimer s i).part pt = s.part pt := by
  simp only [List.mem_cons, List.not_mem_nil, or_false] at h
  unfold State.heatTimer
  dsimp only
  simp [h]

@[simp] theorem State.compareOne_part (s : State) (n : Node) (b : EchoBody) (c : CarriedLevel) (pt
    : Part)
    (h : pt ∉ ([.elements] : List Part)) :
    (State.compareOne s n b c).part pt = s.part pt := by
  simp only [List.mem_cons, List.not_mem_nil, or_false] at h
  unfold State.compareOne
  dsimp only
  (repeat' split) <;> simp [h]

@[simp] theorem State.takeEcho_part (s : State) (n : Node) (b : EchoBody) (carried : List
    CarriedLevel) (pt : Part)
    (h : pt ∉ ([.power, .elements, .counters, .notices] : List Part)) :
    (State.takeEcho s n b carried).part pt = s.part pt := by
  simp only [List.mem_cons, List.not_mem_nil, or_false, not_or] at h
  unfold State.takeEcho
  dsimp only
  (repeat' split) <;> simp [h]

@[simp] theorem State.nodeRestarted_part (s : State) (n : Node) (pt : Part)
    (h : pt ∉ ([.elements, .counters, .notices] : List Part)) :
    (State.nodeRestarted s n).part pt = s.part pt := by
  simp only [List.mem_cons, List.not_mem_nil, or_false, not_or] at h
  unfold State.nodeRestarted
  dsimp only
  simp [h]

@[simp] theorem State.closeHead_part (s : State) (pt : Part)
    (h : pt ∉ ([.elements, .counters, .notices] : List Part)) :
    (State.closeHead s).part pt = s.part pt := by
  simp only [List.mem_cons, List.not_mem_nil, or_false, not_or] at h
  unfold State.closeHead
  dsimp only
  (repeat' split) <;> simp [h]

@[simp] theorem State.advanceBeat_part (s : State) (pt : Part)
    (h : pt ∉ ([.elements] : List Part)) :
    (State.advanceBeat s).part pt = s.part pt := by
  simp only [List.mem_cons, List.not_mem_nil, or_false] at h
  unfold State.advanceBeat
  dsimp only
  (repeat' split) <;> simp [h]

@[simp] theorem State.beat_part (s : State) (pt : Part)
    (h : pt ∉ ([.elements, .counters, .notices] : List Part)) :
    (State.beat s).part pt = s.part pt := by
  simp only [List.mem_cons, List.not_mem_nil, or_false, not_or] at h
  unfold State.beat
  (repeat' split) <;> simp [h]

@[simp] theorem State.applyElement_part (s : State) (i : SlotNo) (old new : SlotCfg) (pt : Part)
    (h : pt ∉ ([.power, .elements] : List Part)) :
    (State.applyElement s i old new).part pt = s.part pt := by
  simp only [List.mem_cons, List.not_mem_nil, or_false, not_or] at h
  unfold State.applyElement
  dsimp only
  (repeat' split) <;> simp [h]

@[simp] theorem State.ownerReposts_part (s : State) (q : Owner) (pt : Part)
    (h : pt ∉ ([.screen, .doors, .power, .elements, .counters, .notices] : List Part)) :
    (State.ownerReposts s q).part pt = s.part pt := by
  simp only [List.mem_cons, List.not_mem_nil, or_false, not_or] at h
  unfold State.ownerReposts
  (repeat' split) <;> simp [h]

@[simp] theorem State.ownersRepost_part (s : State) (old new : SlotCfg) (pt : Part)
    (h : pt ∉ ([.screen, .doors, .power, .elements, .counters, .notices] : List Part)) :
    (State.ownersRepost s old new).part pt = s.part pt := by
  simp only [List.mem_cons, List.not_mem_nil, or_false, not_or] at h
  unfold State.ownersRepost
  dsimp only
  (repeat' split) <;> simp [h]

@[simp] theorem State.elementChanged_part (s : State) (i : SlotNo) (old : SlotCfg) (pt : Part)
    (h : pt ∉ ([.screen, .doors, .power, .elements, .counters, .notices] : List Part)) :
    (State.elementChanged s i old).part pt = s.part pt := by
  simp only [List.mem_cons, List.not_mem_nil, or_false, not_or] at h
  unfold State.elementChanged
  dsimp only
  (repeat' split) <;> simp [h]

/-! ### Node Link Controller -/

@[simp] theorem State.sendOrder_part (s : State) (n : Node) (pt : Part)
    (h : pt ∉ ([.links] : List Part)) :
    (State.sendOrder s n).part pt = s.part pt := by
  simp only [List.mem_cons, List.not_mem_nil, or_false] at h
  unfold State.sendOrder
  dsimp only
  simp [h]

@[simp] theorem State.sendDue_part (s : State) (n : Node) (pt : Part)
    (h : pt ∉ ([.links] : List Part)) :
    (State.sendDue s n).part pt = s.part pt := by
  simp only [List.mem_cons, List.not_mem_nil, or_false] at h
  unfold State.sendDue
  (repeat' split) <;> simp [h]

@[simp] theorem State.markChange_part (s before : State) (n : Node) (pt : Part)
    (h : pt ∉ ([.links] : List Part)) :
    (State.markChange s before n).part pt = s.part pt := by
  simp only [List.mem_cons, List.not_mem_nil, or_false] at h
  unfold State.markChange
  dsimp only
  simp [h]

@[simp] theorem State.settle_part (s before : State) (pt : Part)
    (h : pt ∉ ([.links] : List Part)) :
    (State.settle s before).part pt = s.part pt := by
  simp only [List.mem_cons, List.not_mem_nil, or_false] at h
  unfold State.settle
  dsimp only
  simp [h]

@[simp] theorem State.intervalExpiry_part (s : State) (n : Node) (pt : Part)
    (h : pt ∉ ([.links] : List Part)) :
    (State.intervalExpiry s n).part pt = s.part pt := by
  simp only [List.mem_cons, List.not_mem_nil, or_false] at h
  unfold State.intervalExpiry
  (repeat' split) <;> simp [h]

@[simp] theorem State.spacingExpiry_part (s : State) (n : Node) (pt : Part)
    (h : pt ∉ ([.links] : List Part)) :
    (State.spacingExpiry s n).part pt = s.part pt := by
  simp only [List.mem_cons, List.not_mem_nil, or_false] at h
  unfold State.spacingExpiry
  (repeat' split) <;> simp [h]

@[simp] theorem State.linkLost_part (s : State) (n : Node) (pt : Part)
    (h : pt ∉ ([.power, .elements, .links, .counters, .notices] : List Part)) :
    (State.linkLost s n).part pt = s.part pt := by
  simp only [List.mem_cons, List.not_mem_nil, or_false, not_or] at h
  unfold State.linkLost
  dsimp only
  simp [h]

@[simp] theorem State.relink_part (s : State) (n : Node) (pt : Part)
    (h : pt ∉ ([.power, .elements, .links, .counters, .notices] : List Part)) :
    (State.relink s n).part pt = s.part pt := by
  simp only [List.mem_cons, List.not_mem_nil, or_false, not_or] at h
  unfold State.relink
  dsimp only
  simp [h]

@[simp] theorem State.firstUp_part (s : State) (n : Node) (pt : Part)
    (h : pt ∉ ([.power, .elements, .links, .counters, .notices] : List Part)) :
    (State.firstUp s n).part pt = s.part pt := by
  simp only [List.mem_cons, List.not_mem_nil, or_false, not_or] at h
  unfold State.firstUp
  simp [h]

@[simp] theorem State.runReached_part (s : State) (n : Node) (pt : Part)
    (h : pt ∉ ([.power, .elements, .links, .counters, .notices] : List Part)) :
    (State.runReached s n).part pt = s.part pt := by
  simp only [List.mem_cons, List.not_mem_nil, or_false, not_or] at h
  unfold State.runReached
  (repeat' split) <;> simp [h]

@[simp] theorem State.validFrame_part (s : State) (n : Node) (pt : Part)
    (h : pt ∉ ([.power, .elements, .links, .counters, .notices] : List Part)) :
    (State.validFrame s n).part pt = s.part pt := by
  simp only [List.mem_cons, List.not_mem_nil, or_false, not_or] at h
  unfold State.validFrame
  dsimp only
  (repeat' split) <;> simp [h]

@[simp] theorem State.silenceExpiry_part (s : State) (n : Node) (pt : Part)
    (h : pt ∉ ([.power, .elements, .links, .counters, .notices] : List Part)) :
    (State.silenceExpiry s n).part pt = s.part pt := by
  simp only [List.mem_cons, List.not_mem_nil, or_false, not_or] at h
  unfold State.silenceExpiry
  dsimp only
  (repeat' split) <;> simp [h]

@[simp] theorem State.silenceRetimed_part (s : State) (n : Node) (pt : Part)
    (h : pt ∉ ([.power, .elements, .links, .counters, .notices] : List Part)) :
    (State.silenceRetimed s n).part pt = s.part pt := by
  simp only [List.mem_cons, List.not_mem_nil, or_false, not_or] at h
  unfold State.silenceRetimed
  dsimp only
  simp [h]

@[simp] theorem State.heldDrawExpiry_part (s : State) (n : Node) (pt : Part)
    (h : pt ∉ ([.links] : List Part)) :
    (State.heldDrawExpiry s n).part pt = s.part pt := by
  simp only [List.mem_cons, List.not_mem_nil, or_false] at h
  unfold State.heldDrawExpiry
  (repeat' split) <;> simp [h]

@[simp] theorem State.lateEcho_part (s : State) (n : Node) (pt : Part)
    (h : pt ∉ ([.links, .counters, .notices] : List Part)) :
    (State.lateEcho s n).part pt = s.part pt := by
  simp only [List.mem_cons, List.not_mem_nil, or_false, not_or] at h
  unfold State.lateEcho
  dsimp only
  simp [h]

@[simp] theorem State.restartEcho_part (s : State) (n : Node) (b : EchoBody) (pt : Part)
    (h : pt ∉ ([.power, .elements, .links, .counters, .notices] : List Part)) :
    (State.restartEcho s n b).part pt = s.part pt := by
  simp only [List.mem_cons, List.not_mem_nil, or_false, not_or] at h
  unfold State.restartEcho
  simp [h]

@[simp] theorem State.windowEcho_part (s : State) (n : Node) (tag : Byte) (b : EchoBody) (pt : Part)
    (h : pt ∉ ([.power, .elements, .links, .counters, .notices] : List Part)) :
    (State.windowEcho s n tag b).part pt = s.part pt := by
  simp only [List.mem_cons, List.not_mem_nil, or_false, not_or] at h
  unfold State.windowEcho
  (repeat' split) <;> simp [h]

@[simp] theorem State.takeValidEcho_part (s : State) (n : Node) (tag : Byte) (b : EchoBody) (pt :
    Part)
    (h : pt ∉ ([.power, .elements, .links, .counters, .notices] : List Part)) :
    (State.takeValidEcho s n tag b).part pt = s.part pt := by
  simp only [List.mem_cons, List.not_mem_nil, or_false, not_or] at h
  unfold State.takeValidEcho
  dsimp only
  (repeat' split) <;> simp [h]

@[simp] theorem State.takeSampleFrame_part (s : State) (n : Node) (b : SampleBody) (pt : Part)
    (h : pt ∉ ([.samples, .zones, .screen, .doors, .overrides, .power, .elements, .links,
    .counters, .notices, .free] : List Part)) :
    (State.takeSampleFrame s n b).part pt = s.part pt := by
  simp only [List.mem_cons, List.not_mem_nil, or_false, not_or] at h
  unfold State.takeSampleFrame
  simp [h]

@[simp] theorem State.echoTimeout_part (s : State) (n : Node) (k : OrderNo) (pt : Part)
    (h : pt ∉ ([.power, .elements, .links, .counters, .notices] : List Part)) :
    (State.echoTimeout s n k).part pt = s.part pt := by
  simp only [List.mem_cons, List.not_mem_nil, or_false, not_or] at h
  unfold State.echoTimeout
  dsimp only
  (repeat' split) <;> simp [h]

@[simp] theorem State.frameError_part (s : State) (n : Node) (fault : LinkFault) (pt : Part)
    (h : pt ∉ ([.links, .counters, .notices] : List Part)) :
    (State.frameError s n fault).part pt = s.part pt := by
  simp only [List.mem_cons, List.not_mem_nil, or_false, not_or] at h
  unfold State.frameError
  dsimp only
  (repeat' split) <;> simp [h]

@[simp] theorem State.nodeArrival_part (s : State) (n : Node) (a : NodeArrival) (pt : Part)
    (h : pt ∉ ([.samples, .zones, .screen, .doors, .overrides, .power, .elements, .links,
    .counters, .notices, .free] : List Part)) :
    (State.nodeArrival s n a).part pt = s.part pt := by
  simp only [List.mem_cons, List.not_mem_nil, or_false, not_or] at h
  unfold State.nodeArrival
  split <;> simp [h]

/-! ### Configuration Store -/

@[simp] theorem State.imaxChanged_part (s : State) (pt : Part)
    (h : pt ∉ ([.zones] : List Part)) :
    (State.imaxChanged s).part pt = s.part pt := by
  simp only [List.mem_cons, List.not_mem_nil, or_false] at h
  unfold State.imaxChanged
  dsimp only
  simp [h]

@[simp] theorem State.boostChanged_part (s : State) (d : DoorNo) (pt : Part)
    (h : pt ∉ ([.doors, .power, .elements, .counters, .notices] : List Part)) :
    (State.boostChanged s d).part pt = s.part pt := by
  simp only [List.mem_cons, List.not_mem_nil, or_false, not_or] at h
  unfold State.boostChanged
  simp [h]

@[simp] theorem State.heldRetimed_part (s : State) (d : DoorNo) (pt : Part)
    (h : pt ∉ ([.zones, .doors, .power, .elements, .counters, .notices] : List Part)) :
    (State.heldRetimed s d).part pt = s.part pt := by
  simp only [List.mem_cons, List.not_mem_nil, or_false, not_or] at h
  unfold State.heldRetimed
  (repeat' split) <;> simp [h]

@[simp] theorem State.dewireRetimed_part (s : State) (pt : Part)
    (h : pt ∉ ([.power, .elements, .counters, .notices] : List Part)) :
    (State.dewireRetimed s).part pt = s.part pt := by
  simp only [List.mem_cons, List.not_mem_nil, or_false, not_or] at h
  unfold State.dewireRetimed
  dsimp only
  (repeat' split) <;> simp [h]

@[simp] theorem State.fallbackEnvelopeChanged_part (s : State) (pt : Part)
    (h : pt ∉ ([.power, .elements, .counters, .notices] : List Part)) :
    (State.fallbackEnvelopeChanged s).part pt = s.part pt := by
  simp only [List.mem_cons, List.not_mem_nil, or_false, not_or] at h
  unfold State.fallbackEnvelopeChanged
  (repeat' split) <;> simp [h]

@[simp] theorem State.handItem_part (s before : State) (it : Item) (pt : Part)
    (h : pt ∉ ([.samples, .zones, .screen, .inputs, .doors, .overrides, .power, .elements, .links,
    .counters, .notices] : List Part)) :
    (State.handItem s before it).part pt = s.part pt := by
  simp only [List.mem_cons, List.not_mem_nil, or_false, not_or] at h
  unfold State.handItem
  (repeat' split) <;> simp [h]

@[simp] theorem State.itemSet_part (s : State) (it : Item) (old : Int) (pt : Part)
    (h : pt ∉ ([.samples, .zones, .screen, .inputs, .doors, .overrides, .power, .elements, .links,
    .counters, .store, .notices] : List Part)) :
    (State.itemSet s it old).part pt = s.part pt := by
  simp only [List.mem_cons, List.not_mem_nil, or_false, not_or] at h
  unfold State.itemSet
  (repeat' split) <;> simp [h]

@[simp] theorem State.setConfig_part (s : State) (body : List Byte) (pt : Part)
    (h : pt ∉ ([.samples, .zones, .screen, .inputs, .doors, .overrides, .power, .elements, .links,
    .counters, .store, .notices] : List Part)) :
    (State.setConfig s body).1.part pt = s.part pt := by
  simp only [List.mem_cons, List.not_mem_nil, or_false, not_or] at h
  unfold State.setConfig
  dsimp only
  (repeat' split) <;> simp [h]

@[simp] theorem State.storeConfig_part (s : State) (pt : Part)
    (h : pt ∉ ([.store, .free] : List Part)) :
    (State.storeConfig s).1.part pt = s.part pt := by
  unfold State.storeConfig
  split
  · rfl
  · cases pt <;> first | rfl | simp at h

@[simp] theorem State.storeEnds_part (s : State) (readBackMatches : Bool) (pt : Part)
    (h : pt ∉ ([.store, .notices, .free] : List Part)) :
    (State.storeEnds s readBackMatches).part pt = s.part pt := by
  unfold State.storeEnds
  split
  · cases pt <;> first | rfl | simp at h
  · rfl

@[simp] theorem State.restoreDefaults_part (s : State) (pt : Part)
    (h : pt ∉ ([.samples, .zones, .screen, .inputs, .doors, .overrides, .power, .elements, .links,
    .counters, .store, .notices] : List Part)) :
    (State.restoreDefaults s).part pt = s.part pt := by
  simp only [List.mem_cons, List.not_mem_nil, or_false, not_or] at h
  unfold State.restoreDefaults
  dsimp only
  simp [h]

@[simp] theorem State.blocksReset_part (s : State) (c : Settings) (load : LoadResult) (pt : Part)
    (h : pt ∉ ([.samples, .zones, .screen, .inputs, .doors, .overrides, .power, .elements, .links,
    .counters, .store, .notices, .ports] : List Part)) :
    (State.blocksReset s c load).part pt = s.part pt := by
  cases pt <;> first | (simp at h; done) | rfl

@[simp] theorem State.endOfReset_part (s : State) (pt : Part)
    (h : pt ∉ ([.zones, .screen, .inputs, .doors, .power, .elements, .counters, .notices] : List
    Part)) :
    (State.endOfReset s).part pt = s.part pt := by
  simp only [List.mem_cons, List.not_mem_nil, or_false, not_or] at h
  unfold State.endOfReset
  dsimp only
  simp [h]

@[simp] theorem State.deviceReset_part (s : State) (pt : Part)
    (h : pt ∉ ([.samples, .zones, .screen, .inputs, .doors, .overrides, .power, .elements, .links,
    .counters, .store, .notices, .ports] : List Part)) :
    (State.deviceReset s).part pt = s.part pt := by
  simp only [List.mem_cons, List.not_mem_nil, or_false, not_or] at h
  unfold State.deviceReset
  (repeat' split) <;> simp [h]

/-! ### Readouts -/

@[simp] theorem State.afterRead_part (s : State) (q : ReadEffect) (pt : Part)
    (h : pt ∉ ([.links, .free] : List Part)) :
    (State.afterRead s q).part pt = s.part pt := by
  simp only [List.mem_cons, List.not_mem_nil, or_false, not_or] at h
  unfold State.afterRead
  (repeat' split) <;> simp [h]

@[simp] theorem State.readObject_part (s : State) (p : Port) (body : List Byte) (pt : Part)
    (h : pt ∉ ([.links, .free] : List Part)) :
    (State.readObject s p body).1.part pt = s.part pt := by
  simp only [List.mem_cons, List.not_mem_nil, or_false, not_or] at h
  unfold State.readObject
  (repeat' split) <;> simp [h]

/-! ### Activity Counters -/

@[simp] theorem State.counterSetup_part (s : State) (body : List Byte) (pt : Part)
    (h : pt ∉ ([.counters] : List Part)) :
    (State.counterSetup s body).1.part pt = s.part pt := by
  simp only [List.mem_cons, List.not_mem_nil, or_false] at h
  unfold State.counterSetup
  (repeat' split) <;> simp [h]

@[simp] theorem State.mapCounters_part (s : State) (mask : Byte) (f : CounterRec → CounterRec) (pt
    : Part)
    (h : pt ∉ ([.counters] : List Part)) :
    (State.mapCounters s mask f).part pt = s.part pt := by
  simp only [List.mem_cons, List.not_mem_nil, or_false] at h
  unfold State.mapCounters
  simp [h]

@[simp] theorem State.counterAction_part (s : State) (mask : Byte) (f : CounterRec → CounterRec)
    (pt : Part)
    (h : pt ∉ ([.counters] : List Part)) :
    (State.counterAction s mask f).1.part pt = s.part pt := by
  simp only [List.mem_cons, List.not_mem_nil, or_false] at h
  unfold State.counterAction
  dsimp only
  simp [h]

@[simp] theorem State.unfreezeCounters_part (s : State) (mask : Byte) (pt : Part)
    (h : pt ∉ ([.counters] : List Part)) :
    (State.unfreezeCounters s mask).1.part pt = s.part pt := by
  simp only [List.mem_cons, List.not_mem_nil, or_false] at h
  unfold State.unfreezeCounters
  (repeat' split) <;> simp [h]

@[simp] theorem State.counterControl_part (s : State) (body : List Byte) (pt : Part)
    (h : pt ∉ ([.counters] : List Part)) :
    (State.counterControl s body).1.part pt = s.part pt := by
  simp only [List.mem_cons, List.not_mem_nil, or_false] at h
  unfold State.counterControl
  dsimp only
  (repeat' split) <;> simp [h]

/-! ### Master Port Unit -/

@[simp] theorem State.readNotices_part (s : State) (p : Port) (pt : Part)
    (h : pt ∉ ([.notices, .ports] : List Part)) :
    (State.readNotices s p).1.part pt = s.part pt := by
  simp only [List.mem_cons, List.not_mem_nil, or_false, not_or] at h
  unfold State.readNotices
  simp [h]

@[simp] theorem State.setNoticeMask_part (s : State) (p : Port) (body : List Byte) (pt : Part)
    (h : pt ∉ ([.notices, .ports] : List Part)) :
    (State.setNoticeMask s p body).1.part pt = s.part pt := by
  simp only [List.mem_cons, List.not_mem_nil, or_false, not_or] at h
  unfold State.setNoticeMask
  dsimp only
  (repeat' split) <;> simp [h]

@[simp] theorem State.envelopeRequest_part (s : State) (body : List Byte) (pt : Part)
    (h : pt ∉ ([.power, .elements, .counters, .notices] : List Part)) :
    (State.envelopeRequest s body).1.part pt = s.part pt := by
  simp only [List.mem_cons, List.not_mem_nil, or_false, not_or] at h
  unfold State.envelopeRequest
  rw [State.reply_part]
  simp [h]

@[simp] theorem State.offerRequest_part (s : State) (body : List Byte) (pt : Part)
    (h : pt ∉ ([.power, .elements, .counters, .notices] : List Part)) :
    (State.offerRequest s body).1.part pt = s.part pt := by
  simp only [List.mem_cons, List.not_mem_nil, or_false, not_or] at h
  unfold State.offerRequest
  dsimp only
  simp [h]

@[simp] theorem State.endRequest_part (s : State) (pt : Part)
    (h : pt ∉ ([.power, .elements, .counters, .notices] : List Part)) :
    (State.endRequest s).1.part pt = s.part pt := by
  simp only [List.mem_cons, List.not_mem_nil, or_false, not_or] at h
  unfold State.endRequest
  (repeat' split) <;> simp [h]

@[simp] theorem State.ownerHandles_part (s : State) (p : Port) (kind : Nat) (body : List Byte) (pt
    : Part)
    (h : pt ∉ ([.samples, .zones, .screen, .inputs, .doors, .overrides, .power, .elements, .links,
    .counters, .store, .notices, .ports, .free] : List Part)) :
    (State.ownerHandles s p kind body).1.part pt = s.part pt := by
  simp only [List.mem_cons, List.not_mem_nil, or_false, not_or] at h
  unfold State.ownerHandles
  (repeat' split) <;> simp [h]

@[simp] theorem State.answerRequest_part (s : State) (p : Port) (kind : Byte) (body : List Byte)
    (pt : Part)
    (h : pt ∉ ([.samples, .zones, .screen, .inputs, .doors, .overrides, .power, .elements, .links,
    .counters, .store, .notices, .ports, .free] : List Part)) :
    (State.answerRequest s p kind body).1.part pt = s.part pt := by
  simp only [List.mem_cons, List.not_mem_nil, or_false, not_or] at h
  unfold State.answerRequest
  (repeat' split) <;> simp [h]

@[simp] theorem State.goodFrame_part (s : State) (p : Port) (kind tag : Byte) (body : List Byte)
    (pt : Part)
    (h : pt ∉ ([.samples, .zones, .screen, .inputs, .doors, .overrides, .power, .elements, .links,
    .counters, .store, .notices, .ports, .free] : List Part)) :
    (State.goodFrame s p kind tag body).part pt = s.part pt := by
  simp only [List.mem_cons, List.not_mem_nil, or_false, not_or] at h
  unfold State.goodFrame
  dsimp only
  (repeat' split) <;> simp [h]

@[simp] theorem State.discardFrame_part (s : State) (p : Port) (pt : Part)
    (h : pt ∉ ([.notices, .ports] : List Part)) :
    (State.discardFrame s p).part pt = s.part pt := by
  simp only [List.mem_cons, List.not_mem_nil, or_false, not_or] at h
  unfold State.discardFrame
  simp [h]

@[simp] theorem State.frameComplete_part (s : State) (p : Port) (frame : List Byte) (pt : Part)
    (h : pt ∉ ([.samples, .zones, .screen, .inputs, .doors, .overrides, .power, .elements, .links,
    .counters, .store, .notices, .ports, .free] : List Part)) :
    (State.frameComplete s p frame).part pt = s.part pt := by
  simp only [List.mem_cons, List.not_mem_nil, or_false, not_or] at h
  unfold State.frameComplete
  (repeat' split) <;> simp [h]

@[simp] theorem State.appendChar_part (s : State) (p : Port) (char : Byte) (pt : Part)
    (h : pt ∉ ([.samples, .zones, .screen, .inputs, .doors, .overrides, .power, .elements, .links,
    .counters, .store, .notices, .ports, .free] : List Part)) :
    (State.appendChar s p char).part pt = s.part pt := by
  simp only [List.mem_cons, List.not_mem_nil, or_false, not_or] at h
  unfold State.appendChar
  dsimp only
  (repeat' split) <;> simp [h]

@[simp] theorem State.huntChar_part (s : State) (p : Port) (char : Byte) (stopBit : Bool) (pt :
    Part)
    (h : pt ∉ ([.notices, .ports] : List Part)) :
    (State.huntChar s p char stopBit).part pt = s.part pt := by
  simp only [List.mem_cons, List.not_mem_nil, or_false, not_or] at h
  unfold State.huntChar
  (repeat' split) <;> simp [h]

@[simp] theorem State.charReceived_part (s : State) (p : Port) (char : Byte) (stopBit : Bool) (pt :
    Part)
    (h : pt ∉ ([.samples, .zones, .screen, .inputs, .doors, .overrides, .power, .elements, .links,
    .counters, .store, .notices, .ports, .free] : List Part)) :
    (State.charReceived s p char stopBit).part pt = s.part pt := by
  simp only [List.mem_cons, List.not_mem_nil, or_false, not_or] at h
  unfold State.charReceived
  (repeat' split) <;> simp [h]

@[simp] theorem State.intercharTimeout_part (s : State) (p : Port) (pt : Part)
    (h : pt ∉ ([.notices, .ports] : List Part)) :
    (State.intercharTimeout s p).part pt = s.part pt := by
  simp only [List.mem_cons, List.not_mem_nil, or_false, not_or] at h
  unfold State.intercharTimeout
  (repeat' split) <;> simp [h]

@[simp] theorem State.replySent_part (s : State) (p : Port) (pt : Part)
    (h : pt ∉ ([.notices, .ports] : List Part)) :
    (State.replySent s p).part pt = s.part pt := by
  simp only [List.mem_cons, List.not_mem_nil, or_false, not_or] at h
  unfold State.replySent
  simp [h]

@[simp] theorem State.portLinkExpiry_part (s : State) (p : Port) (pt : Part)
    (h : pt ∉ ([.notices, .ports] : List Part)) :
    (State.portLinkExpiry s p).part pt = s.part pt := by
  simp only [List.mem_cons, List.not_mem_nil, or_false, not_or] at h
  unfold State.portLinkExpiry
  (repeat' split) <;> simp [h]

end Sys2Proof.Machine
end

