-- ==== Sys2Proof/Laws/Settle.lean ====
section
/-! SUPPORT. The end of every event: the settling of the orders changes the link contexts only, and nothing at
all when the ordered state stands as it was and no order is held back. -/

namespace Sys2Proof.Machine

variable (s b : State)

/-! ### What settling leaves -/

@[simp] theorem State.settle_now : (s.settle b).now = s.now :=
  State.now_of_part (by simp)
@[simp] theorem State.settle_st : (s.settle b).st = s.st :=
  State.st_of_part (by simp)
@[simp] theorem State.settle_zr : (s.settle b).zr = s.zr :=
  State.zr_of_part (by simp)
@[simp] theorem State.settle_sc : (s.settle b).sc = s.sc :=
  State.sc_of_part (by simp)
@[simp] theorem State.settle_ic : (s.settle b).ic = s.ic :=
  State.ic_of_part (by simp)
@[simp] theorem State.settle_ddc : (s.settle b).ddc = s.ddc :=
  State.ddc_of_part (by simp)
@[simp] theorem State.settle_ot : (s.settle b).ot = s.ot :=
  State.ot_of_part (by simp)
@[simp] theorem State.settle_pa : (s.settle b).pa = s.pa :=
  State.pa_of_part (by simp)
@[simp] theorem State.settle_es : (s.settle b).es = s.es :=
  State.es_of_part (by simp)
@[simp] theorem State.settle_ac : (s.settle b).ac = s.ac :=
  State.ac_of_part (by simp)
@[simp] theorem State.settle_cs : (s.settle b).cs = s.cs :=
  State.cs_of_part (by simp)
@[simp] theorem State.settle_freeCount : (s.settle b).freeCount = s.freeCount :=
  State.freeCount_of_part (by simp)
@[simp] theorem State.settle_pending : (s.settle b).pending = s.pending :=
  State.pending_of_part (by simp)

theorem State.sendDue_mpu (n : Node) : (s.sendDue n).mpu = s.mpu := by
  unfold State.sendDue; split <;> rfl

@[simp] theorem State.settle_mpu : (s.settle b).mpu = s.mpu := by
  simp [State.settle, State.sendDue_mpu, State.markChange]

@[simp] theorem State.settle_port (p : Port) : (s.settle b).port p = s.port p := by
  simp [State.port]
@[simp] theorem State.settle_zone (z : ZoneNo) : (s.settle b).zone z = s.zone z := by
  simp [State.zone]
@[simp] theorem State.settle_value (v : ValueId) : (s.settle b).value v = s.value v := by
  simp [State.value]
@[simp] theorem State.settle_input (i : InputNo) : (s.settle b).input i = s.input i := by
  simp [State.input]
@[simp] theorem State.settle_door (d : DoorNo) : (s.settle b).door d = s.door d := by
  simp [State.door]
@[simp] theorem State.settle_member (m : Fin 18) : (s.settle b).member m = s.member m := by
  simp [State.member]
@[simp] theorem State.settle_class (c : HeatClass) : (s.settle b).class c = s.class c := by
  simp [State.class]
@[simp] theorem State.settle_absorbed (i : SlotNo) :
    (s.settle b).absorbed i = s.absorbed i := by
  simp [State.absorbed]
@[simp] theorem State.settle_elem (i : SlotNo) : (s.settle b).elem i = s.elem i := by
  simp [State.elem]
@[simp] theorem State.settle_entry (e : EntryNo) : (s.settle b).entry e = s.entry e := by
  simp [State.entry]

/-! ### When settling sends nothing -/

/-- The ordered state of a node reads these parts alone. -/
theorem State.orderedState_congr {s t : State} (n : Node)
    (h : ∀ pt ∈ ([.store, .elements, .zones, .doors, .screen] : List Part),
      t.part pt = s.part pt) : t.orderedState n = s.orderedState n := by
  have hcs := State.cs_of_part (h .store (by simp))
  have hes := State.es_of_part (h .elements (by simp))
  have hzr := State.zr_of_part (h .zones (by simp))
  have hddc := State.ddc_of_part (h .doors (by simp))
  have hsc := State.sc_of_part (h .screen (by simp))
  cases s; cases t
  simp only at hcs hes hzr hddc hsc
  subst hcs hes hzr hddc hsc
  rfl

/-- An event that leaves the ordered state and the links, on settled links, settles to itself. -/
theorem State.settle_same {s t : State} (ho : ∀ n, t.orderedState n = s.orderedState n)
    (hl : t.nlc = s.nlc) (hc : t.cs = s.cs) (hs : s.linksSettled) : t.settle s = t := by
  have mark : ∀ (u : State) (n : Node), u.orderedState n = s.orderedState n →
      u.markChange s n = u := by
    intro u n h
    simp only [State.markChange, h, bne_self_eq_false, Bool.or_false]
    cases u; cases n <;> rfl
  have send : ∀ n, t.sendDue n = t := by
    intro n
    have h : (t.link n).pendingMarker = true → t.maySend n = false := by
      intro hp
      have := hs n (by simpa [State.link, hl] using hp)
      unfold State.maySend State.link State.cfg at this ⊢
      rw [hl, hc]
      exact this
    unfold State.sendDue
    cases hp : (t.link n).pendingMarker
    · simp
    · simp [h hp]
  unfold State.settle
  simp only [mark t .front (ho _), mark t .rear (ho _), send]

/-- The frame form of `settle_same`. -/
theorem State.settle_quiet {s t : State} (hs : s.linksSettled)
    (h : ∀ pt ∈ ([.store, .elements, .zones, .doors, .screen, .links] : List Part),
      t.part pt = s.part pt) : t.settle s = t := by
  refine State.settle_same (fun n => State.orderedState_congr n fun pt hp => h pt ?_)
    (State.nlc_of_part (h .links (by simp))) (State.cs_of_part (h .store (by simp))) hs
  simp only [List.mem_cons, List.not_mem_nil, or_false] at hp
  rcases hp with rfl | rfl | rfl | rfl | rfl <;> simp

end Sys2Proof.Machine
end

