-- ==== Sys2Proof/Laws/Pass.lean ====
section
/-! SUPPORT. What an allocation pass and a staging can do: one relation, kept by every operation that a pass is
made of, from which the frame of every event that takes a pass is read. -/

namespace Sys2Proof.Machine

/-- What any part of a pass leaves: everything but the demands' grants, the class records, the absorbed
amounts, the levels of the elements, the counters and the notices. -/
structure PassStep (s t : State) : Prop where
  allocated : Allocated s.pa t
  demands : DemandsKept s t
  staged : Staged s.es t
  rest : Keeps [.power, .elements, .counters, .notices] s t

theorem PassStep.refl (s : State) : PassStep s s :=
  ⟨⟨rfl, fun _ => rfl⟩, fun _ => rfl, ⟨rfl, fun _ => rfl⟩, fun _ _ => rfl⟩

theorem Allocated.trans {a : PowerAllocator} {t u : State} (h : Allocated a t)
    (k : Allocated t.pa u) : Allocated a u := by
  obtain ⟨h1, h2⟩ := h
  obtain ⟨k1, k2⟩ := k
  refine ⟨?_, fun m => (k2 m).trans (h2 m)⟩
  rw [h1] at k1
  exact k1

theorem Staged.trans {a : ElementStager} {t u : State} (h : Staged a t)
    (k : Staged t.es u) : Staged a u := by
  obtain ⟨h1, h2⟩ := h
  obtain ⟨k1, k2⟩ := k
  refine ⟨?_, fun i => ?_⟩
  · rw [h1] at k1; exact k1
  · have := k2 i
    rw [show t.es.elems[i] = t.elem i from rfl, h2 i] at this
    exact this

theorem Keeps.trans {l : List Part} {s t u : State} (h : Keeps l s t) (k : Keeps l t u) :
    Keeps l s u :=
  fun p hp => (k p hp).trans (h p hp)

theorem PassStep.trans {s t u : State} (h : PassStep s t) (k : PassStep t u) : PassStep s u :=
  ⟨h.allocated.trans k.allocated, fun m => (k.demands m).trans (h.demands m),
    h.staged.trans k.staged, h.rest.trans k.rest⟩

theorem PassStep.foldl {α : Type} (f : State → α → State) (l : List α)
    (h : ∀ t x, PassStep t (f t x)) (s : State) : PassStep s (l.foldl f s) := by
  induction l generalizing s with
  | nil => exact .refl s
  | cons a l ih => exact (h s a).trans (ih _)

theorem PassStep.ite {c : Prop} [Decidable c] {s t u : State} (h : PassStep s t)
    (k : PassStep s u) : PassStep s (if c then t else u) := by
  split <;> assumption

/-- An operation on the Element Stager that changes one element's levels. -/
theorem PassStep.modElem (s : State) (i : SlotNo) (f : ElemRec → ElemRec)
    (h : ∀ e, f e = { e with
      closed := (f e).closed, granted := (f e).granted, duty := (f e).duty, draw := (f e).draw,
      closedSince := (f e).closedSince, openedSince := (f e).openedSince }) :
    PassStep s (s.modElem i f) := by
  refine ⟨⟨rfl, fun _ => rfl⟩, fun _ => rfl, ⟨rfl, fun j => ?_⟩, fun p hp => ?_⟩
  · rw [State.modElem_elem]
    by_cases e : i = j
    · rw [if_pos e]; exact h (s.elem j)
    · rw [if_neg e]; rfl
  · simp only [List.mem_cons, List.not_mem_nil, or_false, not_or] at hp
    simp [hp]

theorem PassStep.setQueue (s : State) (q : List SlotNo) : PassStep s (s.setQueue q) := by
  refine ⟨⟨rfl, fun _ => rfl⟩, fun _ => rfl, ⟨rfl, fun j => rfl⟩, fun p hp => ?_⟩
  simp only [List.mem_cons, List.not_mem_nil, or_false, not_or] at hp
  simp [hp]

theorem PassStep.openContactor (s : State) (i : SlotNo) : PassStep s (s.openContactor i) :=
  .modElem s i _ fun _ => rfl

theorem PassStep.enqueue (s : State) (i : SlotNo) : PassStep s (s.enqueue i) :=
  .ite (.refl s) (.setQueue s _)

theorem PassStep.dequeue (s : State) (i : SlotNo) : PassStep s (s.dequeue i) :=
  .setQueue s _

theorem PassStep.modulate (s : State) (i : SlotNo) (r p h : Nat) :
    PassStep s (s.modElem i (ElemRec.modulate r p h)) :=
  .modElem s i _ fun _ => rfl

theorem PassStep.switchContactors (s : State) (free chosen : List SlotNo) :
    PassStep s (s.switchContactors free chosen) := by
  unfold State.switchContactors
  exact ((PassStep.foldl _ _ PassStep.openContactor s).trans
    (PassStep.foldl _ _ PassStep.dequeue _)).trans (PassStep.foldl _ _ PassStep.enqueue _)

theorem PassStep.stageZone (s : State) (z : ZoneNo) : PassStep s (s.stageZone z) := by
  unfold State.stageZone
  dsimp only
  split
  · exact .switchContactors s _ _
  · exact (PassStep.switchContactors s _ _).trans (.modulate _ _ _ _ _)

theorem PassStep.stageOwned (s : State) (o : Owner) (g : Nat) (x : SlotNo → Nat) :
    PassStep s (s.stageOwned o g x) := by
  unfold State.stageOwned
  split
  · exact .refl s
  · exact .ite (.modulate _ _ _ _ _) (.refl s)

theorem PassStep.stageCurtain (s : State) (d : DoorNo) : PassStep s (s.stageCurtain d) :=
  .stageOwned s _ _ _

theorem PassStep.stage (s : State) : PassStep s s.stage := by
  unfold State.stage
  exact ((PassStep.foldl _ _ PassStep.stageZone s).trans
    (PassStep.foldl _ _ PassStep.stageCurtain _)).trans (.stageOwned _ _ _ _)

theorem PassStep.raise (s : State) (c : Notice) : PassStep s (s.raise c) := by
  refine ⟨⟨rfl, fun _ => rfl⟩, fun _ => rfl, ⟨rfl, fun j => rfl⟩, fun p hp => ?_⟩
  simp only [List.mem_cons, List.not_mem_nil, or_false, not_or] at hp
  simp [hp]

theorem PassStep.counters (s : State) (c : Vector CounterRec 8) : PassStep s { s with ac := c } := by
  refine ⟨⟨rfl, fun _ => rfl⟩, fun _ => rfl, ⟨rfl, fun j => rfl⟩, fun p hp => ?_⟩
  simp only [List.mem_cons, List.not_mem_nil, or_false, not_or] at hp
  simp [hp]

theorem PassStep.signal (s : State) (ev : CountedEvent) (q : Option Nat) (n : Nat) :
    PassStep s (s.signal ev q n) :=
  (PassStep.counters s _).trans (.ite (.raise _ _) (.refl _))

theorem PassStep.signalSheds (s : State) (n : Nat) : PassStep s (s.signalSheds n) :=
  .ite (.refl s) (.signal s _ _ _)

theorem PassStep.modClass (s : State) (c : HeatClass) (f : ClassRec → ClassRec) :
    PassStep s (s.modClass c f) := by
  refine ⟨⟨rfl, fun _ => rfl⟩, fun _ => rfl, ⟨rfl, fun j => rfl⟩, fun p hp => ?_⟩
  simp only [List.mem_cons, List.not_mem_nil, or_false, not_or] at hp
  simp [hp]

theorem PassStep.modMember (s : State) (m : Fin 18) (f : MemberRec → MemberRec)
    (h : ∀ r, (f r).posted = r.posted ∧ (f r).demand = r.demand) :
    PassStep s (s.modMember m f) := by
  refine ⟨⟨rfl, fun k => ?_⟩, fun k => ?_, ⟨rfl, fun j => rfl⟩, fun p hp => ?_⟩
  · rw [State.modMember_member]
    split
    · exact (h _).1
    · rfl
  · rw [State.modMember_member]
    split
    · exact (h _).2
    · rfl
  · simp only [List.mem_cons, List.not_mem_nil, or_false, not_or] at hp
    simp [hp]

theorem PassStep.setMembers (s : State) (v : Vector MemberRec 18)
    (h : ∀ k : Fin 18, v[k].posted = (s.member k).posted ∧ v[k].demand = (s.member k).demand) :
    PassStep s { s with pa := { s.pa with members := v } } := by
  refine ⟨⟨rfl, fun k => (h k).1⟩, fun k => (h k).2, ⟨rfl, fun j => rfl⟩, fun p hp => ?_⟩
  simp only [List.mem_cons, List.not_mem_nil, or_false, not_or] at hp
  simp [hp]

theorem PassStep.tabMembers (s : State) (f : Fin 18 → MemberRec → MemberRec)
    (h : ∀ m r, (f m r).posted = r.posted ∧ (f m r).demand = r.demand) :
    PassStep s (s.tabMembers f) :=
  .setMembers s _ fun k => by
    simpa [State.member] using h k _

theorem PassStep.setAbsorbedAll (s : State) (v : Vector Nat 24) :
    PassStep s (s.modSurplus fun r => { r with absorbed := v }) := by
  refine ⟨⟨rfl, fun _ => rfl⟩, fun _ => rfl, ⟨rfl, fun j => rfl⟩, fun p hp => ?_⟩
  simp only [List.mem_cons, List.not_mem_nil, or_false, not_or] at hp
  simp [hp]

theorem PassStep.setAbsorbed (s : State) (i : SlotNo) (a : Nat) :
    PassStep s (s.setAbsorbed i a) :=
  .setAbsorbedAll s _

theorem PassStep.grantClass (s : State) (c : HeatClass) (g : Nat) :
    PassStep s (s.grantClass c g) :=
  PassStep.foldl (fun t (x : Fin 18 × Nat) =>
    t.modMember x.1 fun r => { r with grant := r.held + x.2 }) _
    (fun t _ => .modMember t _ _ fun _ => ⟨rfl, rfl⟩) s

theorem PassStep.allocate (s : State) : PassStep s s.allocate := by
  unfold State.allocate
  exact PassStep.foldl _ _ (fun t _ => (PassStep.modClass t _ _).trans (.grantClass _ _ _)) s

theorem PassStep.recordShortfall (s : State) (c : HeatClass) :
    PassStep s (s.recordShortfall c) :=
  .ite ((PassStep.modClass s _ _).trans (.signal _ _ _ _)) (.modClass s _ _)

theorem PassStep.shedToFit (fuel : Nat) (s : State) : PassStep s (shedToFit fuel s).1 := by
  induction fuel generalizing s with
  | zero => exact .refl s
  | succ k ih =>
    unfold Machine.shedToFit
    split
    · exact .refl s
    · split
      · exact .refl s
      · exact (PassStep.openContactor s _).trans (ih _)

theorem PassStep.trimSurplus (s : State) : PassStep s s.trimSurplus :=
  .ite (.refl s) ((PassStep.setAbsorbedAll s _).trans (.stage _))

theorem PassStep.fillHeld (s : State) : PassStep s s.fillHeld :=
  .tabMembers s _ fun _ _ => ⟨rfl, rfl⟩

/-- Everything that an allocation pass can do. -/
theorem PassStep.allocationPass (s : State) : PassStep s s.allocationPass := by
  have h := ((PassStep.shedToFit 24 s).trans (.signalSheds _ (Machine.shedToFit 24 s).2)).trans
    (PassStep.fillHeld _)
  unfold State.allocationPass
  exact (((h.trans (.allocate _)).trans (PassStep.foldl _ _ PassStep.recordShortfall _)).trans
    (.stage _)).trans (.trimSurplus _)

/-! ### Clamps -/

/-- What a change of the demands in the table leaves. -/
structure ClampStep (s t : State) : Prop where
  allocated : Allocated s.pa t
  elements : t.es = s.es
  rest : Keeps [.power] s t

theorem ClampStep.refl (s : State) : ClampStep s s :=
  ⟨⟨rfl, fun _ => rfl⟩, rfl, fun _ _ => rfl⟩

theorem ClampStep.trans {s t u : State} (h : ClampStep s t) (k : ClampStep t u) : ClampStep s u :=
  ⟨h.allocated.trans k.allocated, k.elements.trans h.elements, h.rest.trans k.rest⟩

theorem ClampStep.foldl {α : Type} (f : State → α → State) (l : List α)
    (h : ∀ t x, ClampStep t (f t x)) (s : State) : ClampStep s (l.foldl f s) := by
  induction l generalizing s with
  | nil => exact .refl s
  | cons a l ih => exact (h s a).trans (ih _)

theorem ClampStep.setDemand (s : State) (m : Fin 18) (d : Nat) : ClampStep s (s.setDemand m d) := by
  refine ⟨⟨rfl, fun k => ?_⟩, rfl, fun p hp => ?_⟩
  · rw [State.setDemand, State.modMember_member]
    split <;> rfl
  · simp only [List.mem_cons, List.not_mem_nil, or_false] at hp
    simp [hp]

theorem ClampStep.clampZone (s : State) (z : ZoneNo) : ClampStep s (s.clampZone z) := by
  unfold State.clampZone
  dsimp only
  split
  · exact ((ClampStep.setDemand s _ _).trans (.setDemand _ _ _)).trans (.setDemand _ _ _)
  · exact (ClampStep.setDemand s _ _).trans (.setDemand _ _ _)

theorem ClampStep.clampAll (s : State) : ClampStep s s.clampAll := by
  unfold State.clampAll State.clampFilm State.clampCurtain
  exact ((ClampStep.setDemand s _ _).trans
    (ClampStep.foldl _ _ (fun t _ => ClampStep.setDemand t _ _) _)).trans
    (ClampStep.foldl _ _ ClampStep.clampZone _)

/-- What a reclamp with its pass leaves: everything that a pass leaves but the demands. -/
structure ReclampStep (s t : State) : Prop where
  allocated : Allocated s.pa t
  staged : Staged s.es t
  rest : Keeps [.power, .elements, .counters, .notices] s t

theorem ReclampStep.refl (s : State) : ReclampStep s s :=
  ⟨⟨rfl, fun _ => rfl⟩, ⟨rfl, fun _ => rfl⟩, fun _ _ => rfl⟩

theorem ReclampStep.trans {s t u : State} (h : ReclampStep s t) (k : ReclampStep t u) :
    ReclampStep s u :=
  ⟨h.allocated.trans k.allocated, h.staged.trans k.staged, h.rest.trans k.rest⟩

theorem PassStep.reclamp {s t : State} (h : PassStep s t) : ReclampStep s t :=
  ⟨h.allocated, h.staged, h.rest⟩

theorem ClampStep.reclamp {s t : State} (h : ClampStep s t) : ReclampStep s t := by
  refine ⟨h.allocated, ?_, fun p hp => h.rest p ?_⟩
  · rw [← h.elements]; exact ⟨rfl, fun _ => rfl⟩
  · simp only [List.mem_cons, List.not_mem_nil, or_false, not_or] at hp ⊢
    exact hp.1

/-- Everything that a reclamp of some zones can do. -/
theorem ReclampStep.reclampZones (s : State) (zs : List ZoneNo) :
    ReclampStep s (s.reclampZones zs) := by
  have h := (ClampStep.foldl _ zs ClampStep.clampZone s).reclamp
  unfold State.reclampZones State.passIfChanged
  split
  · exact h
  · exact h.trans (PassStep.allocationPass _).reclamp

/-- Everything that a change of availability can do. -/
theorem ReclampStep.availabilityChanged (s : State) : ReclampStep s s.availabilityChanged :=
  (ClampStep.clampAll s).reclamp.trans (PassStep.allocationPass _).reclamp

end Sys2Proof.Machine
end

