-- ==== Sys2Proof/Laws/Requests.lean ====
section
/-! SUPPORT. How a request passes through its port: the good frame, the owner's answer, the reply. -/

namespace Sys2Proof.Machine

/-- A request command is a good frame of its kind on its port. -/
theorem exec_request {c : Instr} {p : Port} {kind tag : Byte} {body : List Byte} (s : State)
    (h : requestOf c = some (p, kind, tag, body)) :
    exec c s = .next ((s.goodFrame p kind tag body).settle s) := by
  cases c <;> simp only [requestOf, Option.some.injEq, Prod.mk.injEq, reduceCtorEq] at h <;>
    (obtain ⟨rfl, rfl, rfl, rfl⟩ := h; rfl)

/-- The state in which a request is checked: its port has heard a good frame. -/
abbrev State.heard (s : State) (p : Port) : State :=
  s.modPort p (PortCtx.goodFrame s.now)

/-- A request with room for its reply is answered. -/
theorem State.goodFrame_room {s : State} {p : Port} (h : s.hasRoom p) (kind tag : Byte)
    (body : List Byte) :
    s.goodFrame p kind tag body =
      ((s.heard p).answerRequest p kind body).1.modPort p
        (PortCtx.pushReply kind tag ((s.heard p).answerRequest p kind body).2) := by
  have h' : ¬ Config.replyCapacity ≤ ((s.heard p).port p).replies.length := by
    have : (s.port p).replies.length < Config.replyCapacity := h
    simpa [PortCtx.goodFrame] using this
  simp only [State.goodFrame, if_neg h']

/-- A request without room for its reply is discarded and counted. -/
theorem State.goodFrame_full {s : State} {p : Port} (h : 4 ≤ (s.port p).replies.length)
    (kind tag : Byte) (body : List Byte) :
    s.goodFrame p kind tag body = (s.heard p).modPort p PortCtx.overrun := by
  have h' : Config.replyCapacity ≤ ((s.heard p).port p).replies.length := by
    have : Config.replyCapacity ≤ (s.port p).replies.length := h
    simpa [PortCtx.goodFrame] using this
  simp only [State.goodFrame, if_pos h']

/-- A change of a port that leaves its notices and attention line. -/
theorem State.modPort_notices (s : State) (p : Port) (f : PortCtx → PortCtx)
    (h : ∀ c, (f c).notices = c.notices ∧ (f c).attention = c.attention) :
    (s.modPort p f).part .notices = s.part .notices := by
  cases p <;> simp [State.part, State.modPort, PortUnit.modify, h]

/-- Hearing a good frame and placing a reply leave every part but the ports. -/
theorem State.heard_part (s : State) (p : Port) (pt : Part) (h : pt ∉ ([.ports] : List Part)) :
    (s.heard p).part pt = s.part pt := by
  by_cases hn : pt = .notices
  · subst hn; exact s.modPort_notices p _ fun _ => ⟨rfl, rfl⟩
  · simp only [List.mem_cons, List.not_mem_nil, or_false] at h
    simp [h, hn]

theorem State.push_part (s : State) (p : Port) (kind tag : Byte) (body : List Byte) (pt : Part)
    (h : pt ∉ ([.ports] : List Part)) :
    (s.modPort p (PortCtx.pushReply kind tag body)).part pt = s.part pt := by
  by_cases hn : pt = .notices
  · subst hn; exact s.modPort_notices p _ fun _ => ⟨rfl, rfl⟩
  · simp only [List.mem_cons, List.not_mem_nil, or_false] at h
    simp [h, hn]

/-- Equal port parts are equal quiet ports. -/
theorem State.quiet_of_part {s t : State} (h : t.part .ports = s.part .ports) (p : Port) :
    (t.port p).quiet = (s.port p).quiet := by
  have h' : t.mpu.desk.quiet = s.mpu.desk.quiet ∧ t.mpu.power.quiet = s.mpu.power.quiet ∧
      t.mpu.service.quiet = s.mpu.service.quiet := by
    simpa [State.part] using h
  cases p
  · exact h'.1
  · exact h'.2.1
  · exact h'.2.2

/-- What a quiet port tells of a port. -/
theorem PortCtx.quiet_fields {a b : PortCtx} (h : a.quiet = b.quiet) :
    a.receiver = b.receiver ∧ a.frame = b.frame ∧ a.link = b.link ∧ a.lastGood = b.lastGood ∧
      a.linkTimer = b.linkTimer ∧ a.frameErrors = b.frameErrors ∧ a.overruns = b.overruns ∧
      a.replies = b.replies ∧ a.mask = b.mask ∧ a.globalEnable = b.globalEnable := by
  cases a; cases b
  simp only [PortCtx.quiet, PortCtx.mk.injEq] at h
  simp_all

/-- An owner that leaves the ports has its request answered with the body that it gives. -/
theorem State.answered_of {s u : State} {p : Port} (kind tag : Byte) (body : List Byte)
    (h : u.part .ports = (s.heard p).part .ports) :
    Answered p kind tag body s (u.modPort p (PortCtx.pushReply kind tag body)) ∧
      MaskKept p s (u.modPort p (PortCtx.pushReply kind tag body)) := by
  have hq := PortCtx.quiet_fields (State.quiet_of_part h p)
  simp only [State.modPort_port_self] at hq
  obtain ⟨h1, h2, h3, h4, h5, h6, h7, h8, h9, h10⟩ := hq
  refine ⟨⟨⟨?_, ?_, ?_, ?_, ?_, ?_⟩, ?_, ?_, ?_⟩, ?_, ?_⟩
  · simpa [PortCtx.pushReply, PortCtx.goodFrame] using h1
  · simpa [PortCtx.pushReply, PortCtx.goodFrame] using h2
  · simpa [PortCtx.pushReply, PortCtx.goodFrame] using h3
  · simpa [PortCtx.pushReply, PortCtx.goodFrame] using h4
  · simpa [PortCtx.pushReply, PortCtx.goodFrame, Config.portLinkTime] using h5
  · simpa [PortCtx.pushReply, PortCtx.goodFrame] using h6
  · intro q hq
    rw [State.modPort_port_ne _ _ hq, State.quiet_of_part h q, State.modPort_port_ne _ _ hq]
  · simpa [PortCtx.pushReply, PortCtx.goodFrame] using h7
  · simp [PortCtx.pushReply, PortCtx.goodFrame, h8]
  · simpa [PortCtx.pushReply, PortCtx.goodFrame] using h9
  · simpa [PortCtx.pushReply, PortCtx.goodFrame] using h10

/-- The owner's handling of a request of a known kind, allowed on its port, with the length of its kind. -/
theorem State.answerRequest_owner (s : State) {p : Port} {kind : Byte} {body : List Byte}
    (hk : namesRequest kind = true) (hr : roleAllows kind.toNat p = true)
    (hl : body.length = bodyLength kind.toNat) :
    s.answerRequest p kind body = s.ownerHandles p kind.toNat body := by
  simp [State.answerRequest, hk, hr, hl]

/-- An owner that leaves everything has its request answered, and nothing but the port changes. -/
theorem State.answered_quiet {s u : State} {p : Port} (kind tag : Byte) (body : List Byte)
    (hs : s.linksSettled) (h : ∀ pt, u.part pt = (s.heard p).part pt) :
    let t := (u.modPort p (PortCtx.pushReply kind tag body)).settle s
    Answered p kind tag body s t ∧ MaskKept p s t ∧ Keeps [.ports] s t := by
  have hk : Keeps [.ports] s (u.modPort p (PortCtx.pushReply kind tag body)) := by
    intro pt hp
    rw [State.push_part _ _ _ _ _ _ hp, h pt, State.heard_part _ _ _ hp]
  have he : (u.modPort p (PortCtx.pushReply kind tag body)).settle s =
      u.modPort p (PortCtx.pushReply kind tag body) := by
    apply State.settle_quiet hs
    intro pt hpt
    apply hk
    simp only [List.mem_cons, List.not_mem_nil, or_false] at hpt ⊢
    rcases hpt with rfl | rfl | rfl | rfl | rfl | rfl <;> simp
  rw [he]
  exact ⟨(State.answered_of kind tag body (h _)).1, (State.answered_of kind tag body (h _)).2, hk⟩

/-- A request that its owner answers: the command's next state, with the reply placed. -/
theorem exec_request_room {c : Instr} {p : Port} {kind tag : Byte} {body : List Byte} {s : State}
    (h : requestOf c = some (p, kind, tag, body)) (hr : s.hasRoom p) :
    exec c s = .next ((((s.heard p).answerRequest p kind body).1.modPort p
      (PortCtx.pushReply kind tag ((s.heard p).answerRequest p kind body).2)).settle s) := by
  rw [exec_request s h, State.goodFrame_room hr]

end Sys2Proof.Machine
end

