-- ==== Sys2Proof/Laws/Events.lean ====
section
/-! SUPPORT. How the claims about an event follow from what its operation does: the settling of the orders and
the placing of a reply carry every finer frame over. -/

namespace Sys2Proof.Machine

/-! ### Settling -/

theorem LinkCtx.sentFrom_refl (k : LinkCtx) : k.sentFrom k :=
  ⟨rfl, [], by simp, by simp⟩

/-- Settling sends at most one order on each link and changes nothing else of it. -/
theorem State.settle_sentFrom (s b : State) (n : Node) :
    ((s.settle b).link n).sentFrom (s.link n) := by
  have mark : ∀ (t : State) (m : Node), ((t.markChange b m).link n) =
      { t.link n with pendingMarker := ((t.markChange b m).link n).pendingMarker } := by
    intro t m
    cases m <;> cases n <;> rfl
  have send : ∀ (t : State) (m : Node), m ≠ n → (t.sendDue m).link n = t.link n := by
    intro t m h
    unfold State.sendDue
    split
    · exact State.modLink_link_ne _ _ (Ne.symm h)
    · rfl
  have self : ∀ t : State, ((t.sendDue n).link n).sentFrom (t.link n) := by
    intro t
    unfold State.sendDue
    split
    · unfold State.sendOrder
      simp only [State.modLink_link_self]
      exact ⟨rfl, _, rfl, by simp⟩
    · exact LinkCtx.sentFrom_refl _
  have marked : ∀ k k' k'' : LinkCtx, k''.sentFrom k' →
      k' = { k with pendingMarker := k'.pendingMarker } → k''.sentFrom k := by
    intro k k' k'' h e
    obtain ⟨h1, sent, h2, h3⟩ := h
    refine ⟨?_, sent, ?_, h3⟩
    · rw [e] at h1; exact h1
    · rw [h2, e]
  unfold State.settle
  dsimp only
  refine marked _ _ _ ?_ (((mark (s.markChange b .front) .rear).trans ?_))
  · cases n
    · rw [send _ .rear (by simp)]; exact self _
    · exact send ((s.markChange b .front).markChange b .rear) .front (by simp) ▸ self _
  · have h1 := mark s .front
    rw [h1]

theorem OrdersSent.settle {s t : State} (b : State) (h : t.nlc = s.nlc) :
    OrdersSent s (t.settle b) := by
  intro n
  have := t.settle_sentFrom b n
  rwa [show t.link n = s.link n by simp [State.link, h]] at this

/-- Settling leaves every part but the links. -/
theorem Keeps.settle {l : List Part} {s t : State} (b : State) (h : Keeps l s t)
    (hl : Part.links ∈ l) : Keeps l s (t.settle b) := by
  intro p hp
  rw [State.settle_part _ _ _ (by
    simp only [List.mem_cons, List.not_mem_nil, or_false]
    rintro rfl; exact hp hl)]
  exact h p hp

theorem Keeps.mono {l k : List Part} {s t : State} (h : Keeps l s t) (hl : ∀ p ∈ l, p ∈ k) :
    Keeps k s t :=
  fun p hp => h p fun hq => hp (hl p hq)

/-! ### The finer frames see one record only -/

theorem Allocated.congr {a : PowerAllocator} {t u : State} (h : Allocated a t)
    (e : u.pa = t.pa) : Allocated a u := by
  obtain ⟨h1, h2⟩ := h
  refine ⟨by rw [e]; exact h1, fun m => ?_⟩
  rw [State.member, e]; exact h2 m

theorem Staged.congr {a : ElementStager} {t u : State} (h : Staged a t) (e : u.es = t.es) :
    Staged a u := by
  obtain ⟨h1, h2⟩ := h
  refine ⟨by rw [e]; exact h1, fun i => ?_⟩
  have : u.elem i = t.elem i := by rw [State.elem, e]; rfl
  rw [this]; exact h2 i

theorem DemandsKept.congr {s t u : State} (h : DemandsKept s t) (e : u.pa = t.pa) :
    DemandsKept s u := by
  intro m
  rw [State.member, e]; exact h m

theorem Raised.congr {c : Notice} {t u : State} (h : Raised c t)
    (e : u.part .notices = t.part .notices) : Raised c u := by
  intro p
  have e' : u.mpu.desk.notices = t.mpu.desk.notices ∧ u.mpu.power.notices = t.mpu.power.notices ∧
      u.mpu.service.notices = t.mpu.service.notices := by
    simp only [State.part, PartValue.notices.injEq, Prod.mk.injEq] at e
    exact ⟨e.1.1, e.2.1.1, e.2.2.1⟩
  have := h p
  cases p <;> simp only [State.holdsNotice, State.port, PortUnit.get] at this ⊢
  · rw [e'.1]; exact this
  · rw [e'.2.1]; exact this
  · rw [e'.2.2]; exact this

/-- A raise sets the notice in all three status sets. -/
theorem Raised.raise (s : State) (c : Notice) : Raised c (s.raise c) := by
  intro p
  cases p <;> cases c <;>
    simp [State.holdsNotice, State.port, State.raise, PortUnit.get, PortCtx.notice,
      PortCtx.attend, Notice.bit, Notice.code]

/-- Settling leaves the notices. -/
theorem Raised.settle {c : Notice} {t : State} (b : State) (h : Raised c t) :
    Raised c (t.settle b) :=
  h.congr (State.settle_part _ _ _ (by simp))

/-- Placing a reply leaves the notices. -/
theorem Raised.push {c : Notice} {t : State} (h : Raised c t) (p : Port) (kind tag : Byte)
    (body : List Byte) : Raised c (t.modPort p (PortCtx.pushReply kind tag body)) :=
  h.congr (State.push_part _ _ _ _ _ _ (by simp))

/-! ### The judging of a node frame -/

@[simp] theorem judgeBody_echo (tag : Byte) (body : List Byte) :
    judgeBody echoKind tag body =
      if body.length = 35 then .echo tag (readEcho body) else .fault .length := rfl

@[simp] theorem judgeBody_sample (tag : Byte) (body : List Byte) :
    judgeBody sampleKind tag body =
      if body.length = 11 then .sample (readSample body) else .fault .length := rfl

/-- All that a judged frame can be: cut short or with a gap, with a bad check, or judged by kind and length. -/
theorem judgeFrame_cases (frame : LinkFrame) :
    (cameInFull frame = false ∧ judgeFrame frame = .fault .length) ∨
    (cameInFull frame = true ∧ checkGood (frame.map (·.1)) = false ∧
      judgeFrame frame = .fault .check) ∨
    (cameInFull frame = true ∧ checkGood (frame.map (·.1)) = true ∧
      judgeFrame frame =
        judgeBody (byteAt (frame.map (·.1)) 2) (byteAt (frame.map (·.1)) 3)
          (((frame.map (·.1)).drop 4).take (u8 (frame.map (·.1)) 1))) := by
  unfold judgeFrame
  cases hf : cameInFull frame <;> cases hc : checkGood (frame.map (·.1)) <;> simp [hc]

/-- What a judged body can be. -/
theorem judgeBody_cases (kind tag : Byte) (body : List Byte) :
    (kind = echoKind ∧ body.length = 35 ∧ judgeBody kind tag body = .echo tag (readEcho body)) ∨
    (kind = sampleKind ∧ body.length = 11 ∧ judgeBody kind tag body = .sample (readSample body)) ∨
    (kind = echoKind ∧ body.length ≠ 35 ∨ kind = sampleKind ∧ body.length ≠ 11) ∧
      judgeBody kind tag body = .fault .length ∨
    kind ≠ echoKind ∧ kind ≠ sampleKind ∧ judgeBody kind tag body = .fault .kind := by
  by_cases he : kind = echoKind
  · subst he
    by_cases hb : body.length = 35 <;> simp [hb]
  · by_cases hs : kind = sampleKind
    · subst hs
      by_cases hb : body.length = 11 <;> simp [hb]
    · exact .inr (.inr (.inr ⟨he, hs, by unfold judgeBody; rw [if_neg he, if_neg hs]⟩))

/-! ### An event on settled links that changes nothing -/

theorem State.settle_self {s : State} (h : s.linksSettled) : s.settle s = s :=
  State.settle_quiet h fun _ _ => rfl

end Sys2Proof.Machine
end

