-- ==== Sys2Proof/Laws/PerInstr.lean ====
section
/-! SUPPORT. The family of statements made per command: what a deliverable request is as a frame. -/

namespace Sys2Proof.Laws

open Sys2Proof.Machine

/-- A command that a port can deliver as a request is a frame of its body and six more characters, its body
fits the length field, and a kind that names no request belongs to UNKNOWN_REQUEST alone (R171, R192). -/
def Deliverable.Statement (i : Instr) : Prop :=
  i.wellFormed = true → ∀ p kind tag body, requestOf i = some (p, kind, tag, body) →
    body.length ≤ 128 ∧ (frameBytes kind tag body).length = body.length + 6 ∧
      (namesRequest kind = false → i = .unknownRequest p kind tag body)

/-- The length of a frame (R192). -/
theorem frameBytes_length (kind tag : Byte) (body : List Byte) :
    (frameBytes kind tag body).length = body.length + 6 := by
  simp [frameBytes, w16]

/-- A request of a known kind with a body that fits. -/
theorem Deliverable.known {i : Instr} (k : Byte) (hk : namesRequest k = true)
    (h : i.wellFormed = true → ∀ p kind tag body, requestOf i = some (p, kind, tag, body) →
      kind = k ∧ body.length ≤ 128) : Deliverable.Statement i := by
  intro hw p kind tag body hr
  obtain ⟨rfl, hb⟩ := h hw p kind tag body hr
  exact ⟨hb, frameBytes_length _ _ _, fun hn => absurd (hn.symm.trans hk) (by decide)⟩

/-- A command that is no request. -/
theorem Deliverable.event {i : Instr} (h : requestOf i = none) : Deliverable.Statement i := by
  intro _ p kind tag body hr
  rw [h] at hr
  exact absurd hr (by simp)

theorem Deliverable.deviceReset :
    Deliverable.Statement .deviceReset :=
  Deliverable.event rfl

theorem Deliverable.inputRawChange (i : InputNo) (level : PinLevel) :
    Deliverable.Statement (.inputRawChange i level) :=
  Deliverable.event rfl

theorem Deliverable.doorInputFilterExpiry (i : Fin 5) :
    Deliverable.Statement (.doorInputFilterExpiry i) :=
  Deliverable.event rfl

theorem Deliverable.lineFilterExpiry :
    Deliverable.Statement .lineFilterExpiry :=
  Deliverable.event rfl

theorem Deliverable.masterIntercharTimeout (p : Port) :
    Deliverable.Statement (.masterIntercharTimeout p) :=
  Deliverable.event rfl

theorem Deliverable.masterFrameError (p : Port) :
    Deliverable.Statement (.masterFrameError p) :=
  Deliverable.event rfl

theorem Deliverable.unknownRequest (p : Port) (kind : Byte) (tag : Byte) (body : List Byte) :
    Deliverable.Statement (.unknownRequest p kind tag body) := by
  intro hw _ _ _ _ hr
  simp only [requestOf, Option.some.injEq, Prod.mk.injEq] at hr
  obtain ⟨rfl, rfl, rfl, rfl⟩ := hr
  have hw' : (!namesRequest kind && bodyFits body) = true := hw
  simp only [Bool.and_eq_true] at hw'
  exact ⟨of_decide_eq_true hw'.2, frameBytes_length _ _ _, fun _ => rfl⟩

theorem Deliverable.readObject (p : Port) (tag : Byte) (body : List Byte) :
    Deliverable.Statement (.readObject p tag body) :=
  Deliverable.known 0x01 (by decide) fun hw _ _ _ _ hr => by
    simp only [requestOf, Option.some.injEq, Prod.mk.injEq] at hr
    obtain ⟨rfl, rfl, rfl, rfl⟩ := hr
    exact ⟨rfl, of_decide_eq_true hw⟩

theorem Deliverable.readNotices (p : Port) (tag : Byte) (body : List Byte) :
    Deliverable.Statement (.readNotices p tag body) :=
  Deliverable.known 0x02 (by decide) fun hw _ _ _ _ hr => by
    simp only [requestOf, Option.some.injEq, Prod.mk.injEq] at hr
    obtain ⟨rfl, rfl, rfl, rfl⟩ := hr
    exact ⟨rfl, of_decide_eq_true hw⟩

theorem Deliverable.setNoticeMask (p : Port) (tag : Byte) (body : List Byte) :
    Deliverable.Statement (.setNoticeMask p tag body) :=
  Deliverable.known 0x03 (by decide) fun hw _ _ _ _ hr => by
    simp only [requestOf, Option.some.injEq, Prod.mk.injEq] at hr
    obtain ⟨rfl, rfl, rfl, rfl⟩ := hr
    exact ⟨rfl, of_decide_eq_true hw⟩

theorem Deliverable.placeOverride (p : Port) (tag : Byte) (body : List Byte) :
    Deliverable.Statement (.placeOverride p tag body) :=
  Deliverable.known 0x04 (by decide) fun hw _ _ _ _ hr => by
    simp only [requestOf, Option.some.injEq, Prod.mk.injEq] at hr
    obtain ⟨rfl, rfl, rfl, rfl⟩ := hr
    exact ⟨rfl, of_decide_eq_true hw⟩

theorem Deliverable.cancelOverride (p : Port) (tag : Byte) (body : List Byte) :
    Deliverable.Statement (.cancelOverride p tag body) :=
  Deliverable.known 0x05 (by decide) fun hw _ _ _ _ hr => by
    simp only [requestOf, Option.some.injEq, Prod.mk.injEq] at hr
    obtain ⟨rfl, rfl, rfl, rfl⟩ := hr
    exact ⟨rfl, of_decide_eq_true hw⟩

theorem Deliverable.shiftChange (p : Port) (tag : Byte) (body : List Byte) :
    Deliverable.Statement (.shiftChange p tag body) :=
  Deliverable.known 0x06 (by decide) fun hw _ _ _ _ hr => by
    simp only [requestOf, Option.some.injEq, Prod.mk.injEq] at hr
    obtain ⟨rfl, rfl, rfl, rfl⟩ := hr
    exact ⟨rfl, of_decide_eq_true hw⟩

theorem Deliverable.setEnvelope (p : Port) (tag : Byte) (body : List Byte) :
    Deliverable.Statement (.setEnvelope p tag body) :=
  Deliverable.known 0x07 (by decide) fun hw _ _ _ _ hr => by
    simp only [requestOf, Option.some.injEq, Prod.mk.injEq] at hr
    obtain ⟨rfl, rfl, rfl, rfl⟩ := hr
    exact ⟨rfl, of_decide_eq_true hw⟩

theorem Deliverable.offerSurplus (p : Port) (tag : Byte) (body : List Byte) :
    Deliverable.Statement (.offerSurplus p tag body) :=
  Deliverable.known 0x08 (by decide) fun hw _ _ _ _ hr => by
    simp only [requestOf, Option.some.injEq, Prod.mk.injEq] at hr
    obtain ⟨rfl, rfl, rfl, rfl⟩ := hr
    exact ⟨rfl, of_decide_eq_true hw⟩

theorem Deliverable.endSurplus (p : Port) (tag : Byte) (body : List Byte) :
    Deliverable.Statement (.endSurplus p tag body) :=
  Deliverable.known 0x09 (by decide) fun hw _ _ _ _ hr => by
    simp only [requestOf, Option.some.injEq, Prod.mk.injEq] at hr
    obtain ⟨rfl, rfl, rfl, rfl⟩ := hr
    exact ⟨rfl, of_decide_eq_true hw⟩

theorem Deliverable.setConfig (p : Port) (tag : Byte) (body : List Byte) :
    Deliverable.Statement (.setConfig p tag body) :=
  Deliverable.known 0x0A (by decide) fun hw _ _ _ _ hr => by
    simp only [requestOf, Option.some.injEq, Prod.mk.injEq] at hr
    obtain ⟨rfl, rfl, rfl, rfl⟩ := hr
    exact ⟨rfl, of_decide_eq_true hw⟩

theorem Deliverable.storeConfig (p : Port) (tag : Byte) (body : List Byte) :
    Deliverable.Statement (.storeConfig p tag body) :=
  Deliverable.known 0x0B (by decide) fun hw _ _ _ _ hr => by
    simp only [requestOf, Option.some.injEq, Prod.mk.injEq] at hr
    obtain ⟨rfl, rfl, rfl, rfl⟩ := hr
    exact ⟨rfl, of_decide_eq_true hw⟩

theorem Deliverable.storeCompletion (readBackMatches : Bool) :
    Deliverable.Statement (.storeCompletion readBackMatches) :=
  Deliverable.event rfl

theorem Deliverable.restoreDefaults (p : Port) (tag : Byte) (body : List Byte) :
    Deliverable.Statement (.restoreDefaults p tag body) :=
  Deliverable.known 0x0C (by decide) fun hw _ _ _ _ hr => by
    simp only [requestOf, Option.some.injEq, Prod.mk.injEq] at hr
    obtain ⟨rfl, rfl, rfl, rfl⟩ := hr
    exact ⟨rfl, of_decide_eq_true hw⟩

theorem Deliverable.counterSetup (p : Port) (tag : Byte) (body : List Byte) :
    Deliverable.Statement (.counterSetup p tag body) :=
  Deliverable.known 0x0D (by decide) fun hw _ _ _ _ hr => by
    simp only [requestOf, Option.some.injEq, Prod.mk.injEq] at hr
    obtain ⟨rfl, rfl, rfl, rfl⟩ := hr
    exact ⟨rfl, of_decide_eq_true hw⟩

theorem Deliverable.preload (p : Port) (tag : Byte) (rest : List Byte) :
    Deliverable.Statement (.preload p tag rest) :=
  Deliverable.known 0x0E (by decide) fun hw _ _ _ _ hr => by
    simp only [requestOf, Option.some.injEq, Prod.mk.injEq] at hr
    obtain ⟨rfl, rfl, rfl, rfl⟩ := hr
    exact ⟨rfl, by have : rest.length ≤ 127 := of_decide_eq_true hw; simp; omega⟩

theorem Deliverable.clear (p : Port) (tag : Byte) (rest : List Byte) :
    Deliverable.Statement (.clear p tag rest) :=
  Deliverable.known 0x0E (by decide) fun hw _ _ _ _ hr => by
    simp only [requestOf, Option.some.injEq, Prod.mk.injEq] at hr
    obtain ⟨rfl, rfl, rfl, rfl⟩ := hr
    exact ⟨rfl, by have : rest.length ≤ 127 := of_decide_eq_true hw; simp; omega⟩

theorem Deliverable.clearFlags (p : Port) (tag : Byte) (rest : List Byte) :
    Deliverable.Statement (.clearFlags p tag rest) :=
  Deliverable.known 0x0E (by decide) fun hw _ _ _ _ hr => by
    simp only [requestOf, Option.some.injEq, Prod.mk.injEq] at hr
    obtain ⟨rfl, rfl, rfl, rfl⟩ := hr
    exact ⟨rfl, by have : rest.length ≤ 127 := of_decide_eq_true hw; simp; omega⟩

theorem Deliverable.freeze (p : Port) (tag : Byte) (rest : List Byte) :
    Deliverable.Statement (.freeze p tag rest) :=
  Deliverable.known 0x0E (by decide) fun hw _ _ _ _ hr => by
    simp only [requestOf, Option.some.injEq, Prod.mk.injEq] at hr
    obtain ⟨rfl, rfl, rfl, rfl⟩ := hr
    exact ⟨rfl, by have : rest.length ≤ 127 := of_decide_eq_true hw; simp; omega⟩

theorem Deliverable.unfreeze (p : Port) (tag : Byte) (rest : List Byte) :
    Deliverable.Statement (.unfreeze p tag rest) :=
  Deliverable.known 0x0E (by decide) fun hw _ _ _ _ hr => by
    simp only [requestOf, Option.some.injEq, Prod.mk.injEq] at hr
    obtain ⟨rfl, rfl, rfl, rfl⟩ := hr
    exact ⟨rfl, by have : rest.length ≤ 127 := of_decide_eq_true hw; simp; omega⟩

theorem Deliverable.elementRelease (p : Port) (tag : Byte) (body : List Byte) :
    Deliverable.Statement (.elementRelease p tag body) :=
  Deliverable.known 0x0F (by decide) fun hw _ _ _ _ hr => by
    simp only [requestOf, Option.some.injEq, Prod.mk.injEq] at hr
    obtain ⟨rfl, rfl, rfl, rfl⟩ := hr
    exact ⟨rfl, of_decide_eq_true hw⟩

theorem Deliverable.replyTransmitted (p : Port) :
    Deliverable.Statement (.replyTransmitted p) :=
  Deliverable.event rfl

theorem Deliverable.portLinkTimerExpiry (p : Port) :
    Deliverable.Statement (.portLinkTimerExpiry p) :=
  Deliverable.event rfl

theorem Deliverable.echo (n : Node) (tag : Byte) (body : List Byte) :
    Deliverable.Statement (.echo n tag body) :=
  Deliverable.event rfl

theorem Deliverable.sampleFrame (n : Node) (body : List Byte) :
    Deliverable.Statement (.sampleFrame n body) :=
  Deliverable.event rfl

theorem Deliverable.nodeFrameError (n : Node) (frame : LinkFrame) :
    Deliverable.Statement (.nodeFrameError n frame) :=
  Deliverable.event rfl

theorem Deliverable.orderIntervalExpiry (n : Node) :
    Deliverable.Statement (.orderIntervalExpiry n) :=
  Deliverable.event rfl

theorem Deliverable.spacingTimerExpiry (n : Node) :
    Deliverable.Statement (.spacingTimerExpiry n) :=
  Deliverable.event rfl

theorem Deliverable.echoTimeout (n : Node) (order : OrderNo) :
    Deliverable.Statement (.echoTimeout n order) :=
  Deliverable.event rfl

theorem Deliverable.silenceTimerExpiry (n : Node) :
    Deliverable.Statement (.silenceTimerExpiry n) :=
  Deliverable.event rfl

theorem Deliverable.heldDrawTimerExpiry (n : Node) :
    Deliverable.Statement (.heldDrawTimerExpiry n) :=
  Deliverable.event rfl

theorem Deliverable.holdTimerExpiry (v : ValueId) :
    Deliverable.Statement (.holdTimerExpiry v) :=
  Deliverable.event rfl

theorem Deliverable.degradeTimerExpiry (v : ValueId) :
    Deliverable.Statement (.degradeTimerExpiry v) :=
  Deliverable.event rfl

theorem Deliverable.regulationPass :
    Deliverable.Statement .regulationPass :=
  Deliverable.event rfl

theorem Deliverable.demistExitHoldExpiry :
    Deliverable.Statement .demistExitHoldExpiry :=
  Deliverable.event rfl

theorem Deliverable.defrostTimerExpiry :
    Deliverable.Statement .defrostTimerExpiry :=
  Deliverable.event rfl

theorem Deliverable.glassTargetHoldExpiry :
    Deliverable.Statement .glassTargetHoldExpiry :=
  Deliverable.event rfl

theorem Deliverable.heldTimerExpiry (d : DoorNo) :
    Deliverable.Statement (.heldTimerExpiry d) :=
  Deliverable.event rfl

theorem Deliverable.trailingTimerExpiry (d : DoorNo) :
    Deliverable.Statement (.trailingTimerExpiry d) :=
  Deliverable.event rfl

theorem Deliverable.decayEnd (d : DoorNo) :
    Deliverable.Statement (.decayEnd d) :=
  Deliverable.event rfl

theorem Deliverable.doorTick :
    Deliverable.Statement .doorTick :=
  Deliverable.event rfl

theorem Deliverable.doorOpenSecond (d : DoorNo) :
    Deliverable.Statement (.doorOpenSecond d) :=
  Deliverable.event rfl

theorem Deliverable.dewireTimerExpiry :
    Deliverable.Statement .dewireTimerExpiry :=
  Deliverable.event rfl

theorem Deliverable.envelopeHoldExpiry :
    Deliverable.Statement .envelopeHoldExpiry :=
  Deliverable.event rfl

theorem Deliverable.restoreStep :
    Deliverable.Statement .restoreStep :=
  Deliverable.event rfl

theorem Deliverable.allocationTimerExpiry :
    Deliverable.Statement .allocationTimerExpiry :=
  Deliverable.event rfl

theorem Deliverable.shortfallTimerExpiry (c : HeatClass) :
    Deliverable.Statement (.shortfallTimerExpiry c) :=
  Deliverable.event rfl

theorem Deliverable.surplusWindowEndTime :
    Deliverable.Statement .surplusWindowEndTime :=
  Deliverable.event rfl

theorem Deliverable.energy :
    Deliverable.Statement .energy :=
  Deliverable.event rfl

theorem Deliverable.lockoutTimerExpiry (i : SlotNo) :
    Deliverable.Statement (.lockoutTimerExpiry i) :=
  Deliverable.event rfl

theorem Deliverable.beatSlotBoundary :
    Deliverable.Statement .beatSlotBoundary :=
  Deliverable.event rfl

theorem Deliverable.overrideExpiry (e : EntryNo) :
    Deliverable.Statement (.overrideExpiry e) :=
  Deliverable.event rfl

theorem Deliverable.masterCharacterReceived (p : Port) (char : Byte) (stopBit : Bool) :
    Deliverable.Statement (.masterCharacterReceived p char stopBit) :=
  Deliverable.event rfl

end Sys2Proof.Laws
end

