-- ==== Sys2Proof/Laws/Staging.lean ====
section
/-! SUPPORT. The stager's and the counters' own operations read in the words of the claims: which slots are held,
free or waiting, what the subsets of a list are, and what one signal does to a counter. -/

namespace Sys2Proof.Machine

/-! ### Contactors -/

theorem State.closedHeld_eq (s : State) (i : SlotNo) : s.closedHeld i = s.closedShort i := rfl

theorem State.mem_contactors (s : State) (z : ZoneNo) (i : SlotNo) :
    i ∈ s.contactors z ↔ s.contactorOf z i = true := by
  simp only [State.contactors, State.zoneElements, State.contactorOf, allSlots, List.mem_filter,
    List.mem_finRange, true_and, Bool.and_eq_true, and_comm, and_left_comm]

theorem State.mem_heldContactors (s : State) (z : ZoneNo) (i : SlotNo) :
    i ∈ s.heldContactors z ↔ s.heldOf z i = true := by
  simp [State.heldContactors, State.mem_contactors, State.heldOf, State.closedHeld_eq]

/-- A free contactor is one that is neither held nor waiting (R120). -/
theorem State.isFree_eq (s : State) (i : SlotNo) :
    s.isFree i = (!s.closedShort i && !s.waits i) := by
  unfold State.isFree State.waits State.queued State.openedLongEnough
  rw [State.closedHeld_eq]
  by_cases hc : (s.elem i).closed = true
  · simp [hc]
  · have hs : s.closedShort i = false := by simp [State.closedShort, hc]
    have hd : ∀ m : Nat, decide (m + s.cfg.minOff * 1000 ≤ s.now)
        = !decide (s.now < m + s.cfg.minOff * 1000) := fun m => by
      rw [← decide_not]; exact decide_eq_decide.mpr Nat.not_lt.symm
    cases (s.elem i).openedSince <;> simp [hc, hs, hd]

/-- The subsets of a list are its sublists. -/
theorem mem_subsets {α : Type} (l x : List α) : x ∈ subsets l ↔ x.Sublist l := by
  induction l generalizing x with
  | nil => simp [subsets]
  | cons a l ih =>
    simp only [subsets, List.mem_append, List.mem_map, ih, List.sublist_cons_iff]
    constructor
    · rintro (⟨y, hy, rfl⟩ | h)
      · exact .inr ⟨y, rfl, hy⟩
      · exact .inl h
    · rintro (h | ⟨y, rfl, hy⟩)
      · exact .inr h
      · exact .inl ⟨y, hy, rfl⟩

/-! ### Signals -/

/-- A counter set to another event takes nothing. -/
theorem CounterRec.occur_other {k : CounterRec} {ev : CountedEvent} (h : k.setup.event ≠ ev)
    (q : Option Nat) (n : Nat) : k.occur ev q n = k := by
  simp [CounterRec.occur, CounterRec.takes, h]

/-- An occurrence leaves the setup of a counter. -/
@[simp] theorem CounterRec.occur_setup (k : CounterRec) (ev : CountedEvent) (q : Option Nat) (n : Nat) :
    (k.occur ev q n).setup = k.setup := by
  unfold CounterRec.occur
  split <;> rfl

/-- Raising a notice leaves the counters. -/
@[simp] theorem State.raiseIf_ac (s : State) (b : Bool) (c : Notice) : (s.raiseIf b c).ac = s.ac := by
  cases b <;> rfl

/-- Where no counter freezes the others, a signal is one occurrence for each counter. -/
theorem State.signal_counter (s : State) (ev : CountedEvent) (q : Option Nat) (n : Nat)
    (h : ∀ k : Fin 8, s.ac[k].setup.freezeOnOverflow = false) (k : Fin 8) :
    (s.signal ev q n).ac[k] = s.ac[k].occur ev q n := by
  have hf : (s.ac.toList.any fun c => c.wraps ev q n && c.setup.freezeOnOverflow) = false := by
    rw [List.any_eq_false]
    intro c hc
    obtain ⟨i, hi, rfl⟩ := List.getElem_of_mem hc
    have hi' : i < 8 := by simpa using hi
    have := h ⟨i, hi'⟩
    simp only [Fin.getElem_fin] at this
    simp [this]
  simp [State.signal, hf, mapV]

/-- Nothing has been signalled where the counters stand as they stood. -/
theorem Signalled.none_of_counters {ev : CountedEvent} {s t : State} (h : t.ac = s.ac) :
    Signalled ev [] s t :=
  fun _ k _ => by rw [h]; rfl

/-- One signal of an event is one occurrence of it. -/
theorem Signalled.signal (s : State) (ev : CountedEvent) (q : Option Nat) (n : Nat) :
    Signalled ev [(q, n)] s (s.signal ev q n) :=
  fun h k _ => s.signal_counter ev q n h k

/-- The signal of another event is no occurrence. -/
theorem Signalled.signal_other (s : State) {ev other : CountedEvent} (ho : other ≠ ev) (q : Option Nat)
    (n : Nat) : Signalled ev [] s (s.signal other q n) := by
  intro h k hk
  rw [s.signal_counter other q n h k]
  exact CounterRec.occur_other (by rw [hk]; exact Ne.symm ho) q n

end Sys2Proof.Machine
end

