-- ==== Sys2Proof/Tests/Slice0.lean ====
section
/-! SUPPORT. The model's own tests: the checks of WellFormed, the manual's worked cases, and a witness for the
hypotheses of each statement. -/

namespace Sys2Proof.Tests

-- The tests are elaborated one after another, so that their stacks are not all held at once.
set_option Elab.async false

open Sys2Proof.Machine

/-! ### Helpers -/

/-- Run commands one after another, stopping where one has no next state. -/
def after : List Instr → State → State
  | [], s => s
  | c :: cs, s =>
    match exec c s with
    | .next t => after cs t
    | _ => s

/-- The newest reply body of a port. -/
def lastReply (s : State) (p : Port) : Option (List Byte) :=
  (s.port p).replies.getLast?.map (·.body)

/-- The power record with the line present and the envelope LIVE. -/
def powered (e : Nat) (s : State) : State :=
  { s with pa := { s.pa with line := .present, envelope := e, envState := .live } }

/-- Every contactor has been open since the start, 100 s ago. -/
def rested (s : State) : State :=
  { s with now := 100000 }

/-! ### Well-formed commands -/

/-- A body or rest of `n` bytes. -/
def bytes (n : Nat) : List Byte :=
  List.replicate n 0

theorem test_wf_kind_named :
    ([0x01, 0x0F].all fun k => !(Instr.unknownRequest .desk k 0 []).wellFormed) = true ∧
      (Instr.unknownRequest .desk 0x10 0 []).wellFormed = true := by decide

/-- Every request whose body is longer than a frame can carry is refused (R192). -/
theorem test_wf_long_body :
    ([Instr.unknownRequest .desk 0 0 (bytes 129), .readObject .desk 0 (bytes 129),
      .readNotices .desk 0 (bytes 129), .setNoticeMask .desk 0 (bytes 129),
      .placeOverride .desk 0 (bytes 129), .cancelOverride .desk 0 (bytes 129),
      .shiftChange .desk 0 (bytes 129), .setEnvelope .power 0 (bytes 129),
      .offerSurplus .power 0 (bytes 129), .endSurplus .power 0 (bytes 129),
      .setConfig .service 0 (bytes 129), .storeConfig .service 0 (bytes 129),
      .restoreDefaults .service 0 (bytes 129), .counterSetup .service 0 (bytes 129),
      .elementRelease .service 0 (bytes 129), .preload .service 0 (bytes 128),
      .clear .service 0 (bytes 128), .clearFlags .service 0 (bytes 128),
      .freeze .service 0 (bytes 128), .unfreeze .service 0 (bytes 128)].all
        fun c => !c.wellFormed) = true := by decide +kernel

/-- An ECHO and a SAMPLE have the lengths of R195, and a frame opens with its sync character. -/
theorem test_wf_node_frames :
    ([Instr.echo .front 0 (bytes 34), .echo .front 0 (bytes 36), .sampleFrame .rear (bytes 10),
      .sampleFrame .rear (bytes 12), .nodeFrameError .front [], .nodeFrameError .front [(0, 0)]].all
        fun c => !c.wellFormed) = true ∧
      ([Instr.echo .front 0 (bytes 35), .sampleFrame .rear (bytes 11),
        .nodeFrameError .front [(0xA5, 0)]].all fun c => c.wellFormed) = true := by decide

/-! ### Frames (chapter 12) -/

/-- The check over the bytes 31h to 39h is 29B1h (chapter 12). -/
theorem test_check_29B1 :
    cyclicCheck [0x31, 0x32, 0x33, 0x34, 0x35, 0x36, 0x37, 0x38, 0x39] = 0x29B1#16 := by decide +kernel

/-- The characters of a READ-NOTICES frame leave their port as the request does. -/
theorem test_characters_deliver :
    (after ((frameBytes 0x02 0x55 []).map fun ch => .masterCharacterReceived .desk ch true)
        State.reset).port .desk =
      (after [.readNotices .desk 0x55 []] State.reset).port .desk := by decide +kernel

/-- Device reset from the reset state ends in it again (R190). -/
theorem test_reset_again : after [.deviceReset] State.reset = State.reset := by decide +kernel

/-! ### Zone regulation (2.9, 2.12) -/

/-- FRONT-2 before the pass of section 2.9. -/
def front2 : State :=
  let s := powered 1000 State.reset
  let s := { s with now := 2000, st := { s.st with outsideTemp := -250 } }
  let s := s.modScreen fun r => { r with state := .clear, acting := none, airRequest := false }
  let s := s.modValue (.air 2) fun _ =>
    { value := some 148, window := [147, 148, 149, 148], lastValid := some 2000, quality := .fresh,
      rejection := .none }
  let s := s.modZone 2 fun r =>
    { r with integ := 5120, hb := 104, lastPosted := 104, upperStop := false, lowerStop := false }
  let s := s.modMember 14 fun _ => { posted := 104, demand := 104, held := 0, grant := 104 }
  let s := s.modMember 9 fun _ => { posted := 30, demand := 16, held := 0, grant := 16 }
  s.modDoor 1 fun r => { r with state := .trailing }

/-- The pass of section 2.9: 12 for the error, an integrator of 5312, 76 of feedforward, 108 posted, blower 3,
and the door part cut to 12. -/
theorem test_pass_front2 :
    let t := after [.regulationPass] front2
    let r := t.zone 2
    [r.err, some r.prop, some r.integ, some r.iTerm, some r.feed, some r.hb, some r.quantHb,
        some r.blower] = [some 12, some 12, some 5312, some 20, some 76, some 108, some 108, some 3] ∧
      ((t.member 14).demand, (t.member 9).demand) = (108, 12) := by decide +kernel

/-- REAR-2 without its modulated element (2.12). -/
theorem test_quantised_rear2 :
    bestSum 73 [40, 40] = 40 ∧ propTerm 32 (zoneError 160 165) = -5 ∧
      integralTerm (clampInteg 60 (3968 + 16 * (-5))) = 15 ∧ baseLevel 40 80 = 2 := by decide

/-! ### The screen (3.10, 3.11) -/

/-- The first frame of section 3.11, entered before the screen takes it. -/
def coldFrame : State :=
  State.enterFrame { State.reset with now := 250 } .front
    { air0 := -150, air1 := -150, air2 := -150, outside := -220, glass := -180, rh := 40 }

/-- The cold start of section 3.11: whichever of the first outside value and the computation is taken first,
the screen is in DEFROST until 480.25 s, and the margin is 90. -/
theorem test_cold_start :
    let ends (t : State) : Bool :=
      t.sc.state == .defrost && t.sc.origin == .coldStart && t.sc.defrostTimer == some 480250 &&
        t.sc.dew == some (-270) && t.sc.margin == some 90 && (t.member 0).posted == 30 &&
        (t.member 1).posted == 30
    (ends coldFrame.coldStart.screenCompute && ends coldFrame.screenCompute.coldStart) = true := by
  decide +kernel

/-- The frame at 55 s of section 3.10, from WATCH: DEMIST with 15 HS on the film and 20 in the cab. -/
theorem test_wet_boarding :
    let s := State.reset.modScreen fun r =>
      { r with state := .watch, acting := none, airRequest := false, flap := .mix,
               coldDecision := .taken }
    let s := { s with st := { s.st with firstOutside := true } }
    let t := after [.sampleFrame .front [0, 200, 0, 200, 0, 200, 0xFF, 0xCE, 0, 168, 72]] s
    (t.sc.state, t.sc.dew, t.sc.margin, t.sc.flap) = (.demist, some 144, some 24, .screen) ∧
      ((t.member 0).posted, (t.member 1).posted, t.zr.airFront.commanded) = (15, 20, 75) := by
  decide +kernel

/-- A change from CLEAR to WATCH leaves the request as it was and moves the CAB blower alone; a change to
DEMIST moves every zone's (R42, R63). Door 1, mapped to FRONT-1 and open, has not yet moved that zone's
blower. -/
theorem test_watch_moves_cab :
    let s := (State.reset.modScreen fun r =>
      { r with state := .clear, acting := none, airRequest := false, flap := .floor }).modDoor 0
        fun r => { r with state := .open, openStart := some 0 }
    ((s.changeScreen .watch none).zone 1).blower = 0 ∧
      ((s.changeScreen .demist none).zone 1).blower = 2 := by decide +kernel

/-! ### Doors (4.9) -/

/-- Door 2 has been open for 18 s with the ring of section 4.9, and its input has settled closed. -/
def door2 : State :=
  let s := { State.reset with now := 20000, st := { State.reset.st with outsideTemp := -250 } }
  let s := s.modInput 1 fun _ => { raw := .high, stableSince := 19960, filtered := .inactive }
  s.modDoor 1 fun r =>
    { r with state := .open, openStart := some 2000, level := 40, ring := [120, 180, 250, 90] }

/-- The close of section 4.9: the ring takes 180, and 40 decays over 36 s. -/
theorem test_door_closes :
    let r := (after [.doorInputFilterExpiry 1] door2).door 1
    (r.state, r.ring, r.decayTime, r.vclose, r.trailingTimer) =
        (.trailing, [120, 180, 250, 90, 180], some 36000, some 40, some 28000) ∧
      (r.curtainHeat, r.curtainBlower) = (30, .high) := by decide +kernel

theorem test_door_levels :
    preBoost 40 (some 160) = 32 ∧ preBoost 40 (some 164) = 32 ∧ decayLevel 40 34500 36000 = 38 ∧
      decayLevel 40 28000 36000 = 31 ∧ decayLevel 40 9000 36000 = 10 ∧
      decayFor 150000 = 60000 := by decide

/-! ### The allocation pass and its staging (5.6, 5.7, 5.8, 6.9) -/

/-- The demand table of section 5.6, every contactor open for more than its minimum off-time. -/
def demands300 : State :=
  let ds : List Nat := [15, 15, 25, 30, 30, 0, 0, 0, 10, 20, 0, 0, 0, 108, 100, 40, 95, 90]
  (rested (powered 300 State.reset)).tabMembers fun m _ =>
    { posted := ds.getD m.val 0, demand := ds.getD m.val 0, held := 0, grant := 0 }

/-- The state after the pass of section 5.6. -/
def pass300 : State :=
  after [.allocationTimerExpiry] demands300

/-- The zone grants of section 5.6 and the staging of section 6.9. -/
theorem test_pass_at_300 :
    allZones.map pass300.zoneGrant = [40, 49, 56, 14, 34, 32] ∧
      pass300.es.queue = [0, 2, 5] ∧
      ([1, 4, 7, 9, 12, 15, 20, 16, 17].map fun i => (pass300.elem i).duty) =
        [64, 14, 25, 44, 54, 51, 32, 64, 64] ∧
      pass300.accountedDraw = 300 := by decide +kernel

/-- The two passes of section 5.7, the second with 20 HS held. -/
theorem test_pass_at_60 :
    classGrants 60 [⟨0, 30, 30⟩, ⟨20, 25, 40⟩, ⟨0, 30, 120⟩, ⟨40, 393, 300⟩] = [0, 20, 0, 40] ∧
      classGrants 60 [⟨0, 30, 30⟩, ⟨20, 25, 40⟩, ⟨0, 30, 120⟩, ⟨0, 393, 300⟩] =
        [30, 25, 5, 0] := by decide

/-- The demand table of section 5.6 at 100 s: slot 0 closed for 5 s, slot 3 for 20 s, slot 6 open for 5 s,
slot 10 queued. -/
def mixed : State :=
  let closed (i : SlotNo) (m : Nat) (s : State) : State :=
    s.modElem i fun e => { e with closed := true, closedSince := some m, openedSince := none }
  ((closed 0 95000 (closed 3 80000 demands300)).modElem 6 fun e =>
    { e with openedSince := some 95000 }).setQueue [10]

/-- The staging of R120 and R121: slot 3 of two equal ratings since it is closed already, slot 5 with slot 6
waiting, slot 0 held; the queued slot 10 no longer fits REAR-1. -/
theorem test_staging_choice :
    let t := after [.allocationTimerExpiry] mixed
    (t.es.queue, ([0, 2, 3, 6, 10].map fun i => (t.elem i).closed)) =
      ([5], [true, false, true, false, false]) := by decide +kernel

/-- Held contactors of 20 HS in CAB and of 40 HS each in FRONT-1 and FRONT-2, the latter closed later, under a
budget. -/
def holding (budget : Nat) : State :=
  let closed (i : SlotNo) (m : Nat) (s : State) : State :=
    s.modElem i fun e => { e with closed := true, closedSince := some m, openedSince := none }
  closed 0 99000 (closed 2 92000 (closed 5 95000 (rested (powered budget State.reset))))

/-- The sheds of R103: the contactor closed latest at a budget 1 HS short, and all three at 1 HS below
CAB's. -/
theorem test_sheds :
    [99, 19].map (fun b =>
      let t := after [.allocationTimerExpiry] (holding b)
      [0, 2, 5].map fun i => (t.elem i).closed) =
      [[true, true, false], [false, false, false]] := by
  decide +kernel

/-- The state of the offer in section 5.8: FRONT-1, FRONT-2 and REAR-2 below their bands, JOINT above. -/
def beforeOffer : State :=
  let at_ (z : ZoneNo) (tz : Int) (s : State) : State :=
    (s.modValue (.air z) fun r => { r with value := some tz, quality := .fresh }).modZone z
      fun r => { r with state := .normal }
  let s := at_ 1 150 (at_ 2 150 (at_ 3 140 (at_ 5 150 pass300)))
  s.modValue .glass fun r => { r with value := some 120, quality := .fresh }

/-- The offer of section 5.8: 50 HS accepted over slots 4, 7, 15 and 20. -/
theorem test_offer_50 :
    let t := after [.offerSurplus .power 0 [0x00, 0x32, 0x03, 0x20]] beforeOffer
    lastReply t .power = some [0x00, 0x00, 0x32] ∧
      ([4, 7, 15, 20].map t.absorbed) = [20, 15, 5, 10] := by decide +kernel

/-- The third boundary of section 6.9 has closed the three contactors. -/
theorem test_closures :
    let boundary (s : State) : State :=
      after [.beatSlotBoundary] { s with now := s.es.slotTimer.getD 0 + s.now }
    let t := boundary (boundary (boundary pass300))
    t.es.queue = [] ∧ ([0, 2, 5].map fun i => (t.elem i).closed) = [true, true, true] := by
  decide +kernel

/-! ### The line (5.13) -/

/-- A restore step from 292 under an envelope of 300 HS ends the ceiling. -/
theorem test_restore_step :
    let s := powered 300 State.reset
    let s := { s with now := 250, pa := { s.pa with
      ceiling := 292, ceilingActive := true, stepTimer := some 250 } }
    let t := after [.restoreStep] s
    (t.pa.ceiling, t.pa.ceilingActive, t.budget) = (302, false, 300) := by decide +kernel

/-- The filtered LINE drops with a duty of 40 HS and 60 HS queued: 100 HS are kept as the pre-gap draw and
nothing stays ordered on (R92). -/
theorem test_gap :
    let s := (powered 300 State.reset).modElem 7 fun e => { e with duty := 64, draw := 40 }
    let s := (s.setQueue [0, 2]).modInput lineInput fun _ =>
      { raw := .low, stableSince := 0, filtered := .active }
    let t := after [.lineFilterExpiry] { s with now := 4 }
    (t.pa.line, t.pa.preGapDraw, t.budget, t.es.queue, t.accountedDraw) = (.gap, 100, 0, [], 0) ∧
      t.holdsNotice .power .gapBegin = true := by decide +kernel

/-! ### Node links and elements (6.12, 7.11) -/

/-- An echo in which the outputs of a mask are overheated. -/
def echoBody (hot : Half) : List Byte :=
  [0, hot.extractLsb' 8 8, hot.extractLsb' 0 8] ++ List.replicate 32 0

/-- The first lockout of section 6.12. -/
theorem test_overheat :
    let t := after [.echo .front 0 (echoBody 0x0080)] State.reset
    (t.elem 7).state = .lockedOut ∧ (t.elem 7).lockoutTimer = some 300000 ∧ t.available 2 = 80 := by
  decide +kernel

/-- An echo of section 7.11 takes its order from the window; one of another number is late. -/
theorem test_echo_numbers :
    let t := after [.echo .front 0 (echoBody 0)] State.reset
    let u := after [.echo .front 5 (echoBody 0)] State.reset
    ((t.link .front).window = [] ∧ (t.link .front).lateEchoes = 0) ∧
      (u.link .front).window.length = 1 ∧ (u.link .front).lateEchoes = 1 := by decide +kernel

/-- The characters of a node frame, the last of them `gap` ms after the one before it. -/
def framed (kind : Byte) (body : List Byte) (gap : Nat) : LinkFrame :=
  let chars := frameBytes kind 0 body
  (chars.dropLast.map (·, 0)) ++ [(chars.getLast?.getD 0, gap)]

/-- The faults of R137: a gap of 6 ms, a wrong length, a kind that is neither, and a bad check. -/
theorem test_node_frames_judged :
    judgeFrame (framed 0x42 (bytes 11) 5) = .sample (readSample (bytes 11)) ∧
      judgeFrame (framed 0x41 (bytes 35) 0) = .echo 0 (readEcho (bytes 35)) ∧
      judgeFrame (framed 0x42 (bytes 11) 6) = .fault .length ∧
      judgeFrame (framed 0x41 (bytes 11) 0) = .fault .length ∧
      judgeFrame (framed 0x40 (bytes 39) 0) = .fault .kind ∧
      judgeFrame ((framed 0x42 (bytes 11) 0).set 9 (1, 0)) = .fault .check := by decide +kernel

/-- A restart echo of an order that is not outstanding takes the contactors as open from its arrival, and its
overheat flag stands (R143). -/
theorem test_restart_echo :
    let s := (powered 300 { State.reset with now := 7000 }).modElem 2 fun e =>
      { e with closed := true, closedSince := some 1000, openedSince := none }
    let t := after [.echo .front 5 ((echoBody 0x0080).set 0 1)] s
    ((t.elem 2).closed, (t.elem 2).openedSince, (t.elem 7).state) =
        (false, some 7000, .lockedOut) ∧
      ((t.link .front).restarts, (t.link .front).lateEchoes) = (1, 1) := by decide +kernel

/-! ### Overrides (8.8) -/

/-- The four placements of section 8.8. -/
def shifts : State :=
  after [.placeOverride .service 0 [0, 1, 1, 0x00, 0x14, 0xFF, 0xFF],
    .placeOverride .service 1 [2, 0, 5, 0x00, 0x5A, 0xFF, 0xFF],
    .placeOverride .desk 2 [0, 0, 2, 0xFF, 0xE2, 0, 0],
    .placeOverride .desk 3 [0, 1, 2, 0x00, 0x50, 0, 0]] State.reset

/-- The shifts as section 8.8 resolves them, before and after slot 3 is cancelled. -/
theorem test_shifts_resolve :
    (lastReply shifts .desk).map (·.take 4) = some [0x01, 0x03, 0x00, 0x03] ∧
      allZones.map shifts.setpoint = [250, 210, 210, 140, 180, 180] ∧
      (let t := after [.cancelOverride .desk 4 [3]] shifts
       [0, 1, 2].map t.setpoint = [200, 180, 130]) ∧
      lastReply (after [.cancelOverride .desk 5 [0]] shifts) .desk = some [0x03] := by
  decide +kernel

/-! ### Counters (10.6) -/

/-- The three counters of section 10.6 after setup and preload. -/
def counters : State :=
  after [.counterSetup .service 0 [0, 6, 0xFF, 0, 1, 2],
    .counterSetup .service 1 [1, 1, 0x08, 50, 2, 2],
    .counterSetup .service 2 [2, 2, 0x02, 0, 0, 3],
    .preload .service 3 [0x04, 0xFF, 0xFF, 0xFF, 0xFD]] State.reset

/-- The values of the three counters, and whether the first is frozen. -/
def counts (s : State) : List Nat × Bool :=
  ([s.ac[0].value, s.ac[1].value, s.ac[2].value], s.ac[0].frozen)

/-- The occurrences of section 10.6. -/
theorem test_shift_counters :
    let s := (((counters.signal .shortfallPass (some 3) 278).signal .shortfallPass (some 3) 120).signal
      .doorOpen (some 1) 1).signal .shortfallPass (some 3) 30
    let t := (((s.signal .forcedShed none 2).signal .doorOpen (some 0) 1).signal
      .shortfallPass (some 3) 90).signal .doorOpen (some 1) 1
    let u := (t.signal .doorOpen (some 1) 1).signal .forcedShed none 1
    counts counters = ([0, 0, 4294967293], false) ∧ counts s = ([0, 1, 4294967294], false) ∧
      counts t = ([2, 2, 4294967295], false) ∧ counts u = ([2, 2, 0], true) ∧
      u.holdsNotice .desk .counterOverflow = true ∧
      lastReply (after [.unfreeze .service 9 [0xFF, 0, 0, 0, 0]]
        { u with mpu := PortUnit.reset }) .service = some [0x08] := by decide +kernel

/-! ### Configuration (chapter 11) -/

/-- A store whose read-back matches leaves the changed Kp in the non-volatile copy (R186, R189). -/
theorem test_store :
    let t := after [.setConfig .service 0 [22, 0, 0, 0, 0, 45], .storeConfig .service 1 [],
      .storeCompletion true] State.reset
    (t.cs.nonVolatile.kp, t.cs.nonVolatileGood, t.cs.lastStore) = (45, true, .ok) := by
  decide +kernel

/-- A width code on either side of its four codes is refused, not clamped (R88). -/
theorem test_width_codes :
    ([[0xFF, 0xFF, 0xFF, 0xFF], [0, 0, 0, 4], [0, 0, 0, 3]].map fun v =>
      lastReply (after [.setConfig .service 0 ([62, 0] ++ v)] State.reset) .service) =
        [some [0x05], some [0x05], some [0x00, 62, 0, 0, 0, 0, 3]] := by decide +kernel

/-- Bd takes its door as index 1 to 4 (R186): index 0 names nothing, index 4 the boost of door 4. -/
theorem test_boost_index :
    ([0, 4].map fun i =>
      lastReply (after [.setConfig .service 0 [63, i, 0, 0, 0, 50]] State.reset) .service) =
        [some [0x05], some [0x00, 63, 4, 0, 0, 0, 50]] ∧
      (after [.setConfig .service 0 [63, 4, 0, 0, 0, 50]] State.reset).cfg.bd =
        #v[40, 40, 40, 50] := by decide +kernel

/-- With width code 0 the inputs settle at the end of reset (R70, R73, R75): DR1 at a LOW pin opens door 1,
and REL at a HIGH pin arms doors 2 to 4 with half their boost. -/
theorem test_reset_settles :
    let copy : Settings := { factory with
      inputs := updV (updV factory.inputs 0 fun x => { x with width := 0 }) 4 fun x =>
        { x with width := 0 } }
    let s : State := { State.reset with cs := { State.reset.cs with
      nonVolatile := copy, nonVolatileGood := true } }
    let t := after [.deviceReset] (s.modInput 4 fun r => { r with raw := .high })
    (allDoors.map fun d => ((t.door d).state, (t.door d).level)) =
      [(.open, 40), (.armed, 20), (.armed, 20), (.armed, 20)] := by decide +kernel

/-- The factory owners put a queue of other owners into their own order (R124): slot 7, which stood first as
the cab's, goes behind slot 2. -/
theorem test_defaults_reorder_queue :
    let s : State := { State.reset with cs := { State.reset.cs with
      work := { factory with slots := updV factory.slots 7 fun x => { x with owner := .zone 0 } } } }
    ((s.setQueue [7, 2]).orderQueue.es.queue, (State.reset.setQueue [7, 2]).orderQueue.es.queue) =
      ([7, 2], [2, 7]) := by decide +kernel

/-! ### Witnesses: a state and operands that meet the hypotheses of a statement -/

/-- A port has room for a reply, from its queue. -/
theorem room_of {s : State} {p : Port} (h : decide ((s.port p).replies.length < 4) = true) :
    s.hasRoom p := by
  simpa [State.hasRoom] using h

/-- No link holds an order back, from the two links. -/
theorem settled_of {s : State}
    (h : ([Node.front, .rear].all fun n => !(s.link n).pendingMarker || !s.maySend n) = true) :
    s.linksSettled := by
  intro n hn
  have := List.all_eq_true.mp h n (by cases n <;> simp)
  simpa [hn] using this

/-- No order is held back, and something decided besides. -/
theorem settled_and {s : State} {P : Prop} [Decidable P]
    (h : (([Node.front, .rear].all fun n => !(s.link n).pendingMarker || !s.maySend n) &&
      decide P) = true) : s.linksSettled ∧ P := by
  rw [Bool.and_eq_true] at h
  exact ⟨settled_of h.1, of_decide_eq_true h.2⟩

/-- A check of every held entry. -/
theorem entries_of {s : State} {f : EntryNo → Entry → Bool}
    (h : ((List.finRange 16).all fun e =>
      match s.entry e with
      | some y => f e y
      | none => true) = true) (e : EntryNo) (y : Entry) (hy : s.entry e = some y) :
    f e y = true := by
  have := List.all_eq_true.mp h e (List.mem_finRange e)
  rwa [hy] at this

/-- A command with a next state. -/
theorem next_of {c : Instr} {s : State}
    (h : (match exec c s with | .next _ => true | _ => false) = true) : ∃ t, exec c s = .next t := by
  split at h
  · exact ⟨_, ‹_›⟩
  · exact absurd h (by simp)

/-- A step with a next state. -/
theorem step_of {s : State}
    (h : (match step s with | .next _ => true | _ => false) = true) : ∃ t, step s = .next t := by
  split at h
  · exact ⟨_, ‹_›⟩
  · exact absurd h (by simp)

/-- Reset has room at every port, and no order is held back. -/
theorem reset_room (p : Port) : State.reset.hasRoom p := by
  cases p <;> exact room_of (by decide +kernel)

theorem reset_settled : State.reset.linksSettled :=
  settled_of (by decide +kernel)

theorem witness_idle : State.reset.pending = [] := rfl

/-- An override entry for tests. -/
def entryOf (k : OverrideKind) (t : Target) (src : Source) (v : Option Int) (seq : Nat) : Entry :=
  { kind := k, target := t, value := v, source := src, expiry := none, seq := seq,
    suspended := false }

/-- A table of overrides, as rows of a list. -/
def withEntries (l : List Entry) (s : State) : State :=
  { s with ot := { slots := Vector.ofFn fun e => l[e.val]?, running := 20 } }

/-- A powered state with three overrides: two shifts and a cap of 90 HS on REAR-2. -/
def busy : State :=
  { withEntries [entryOf .setpointShift (.group 1) .service (some 20) 0,
      entryOf .zoneCap (.zone 5) .service (some 90) 1,
      entryOf .setpointShift (.zone 2) .desk (some (-30)) 2] (powered 300 State.reset) with
    pending := [.allocationTimerExpiry] }

theorem witness_ports : busy.portsRight = true ∧ ∃ t, step busy = .next t :=
  ⟨by decide +kernel, step_of (by decide +kernel)⟩

/-- The queue of section 6.9, with a pass waiting. -/
def queued : State :=
  busy.setQueue [0, 2, 5]

theorem queued_right : queued.queueRight ∧ queued.slotsRight := by
  unfold State.queueRight State.slotsRight
  decide +kernel

theorem witness_beat :
    queued.beatRight = true ∧ queued.queueRight ∧ queued.slotsRight ∧ queued.es.queue ≠ [] ∧
      ∃ t, step queued = .next t :=
  ⟨by decide +kernel, queued_right.1, queued_right.2, by decide, step_of (by decide +kernel)⟩

theorem witness_table :
    busy.tableRight ∧ busy.airEntriesRight ∧ ∃ t, step busy = .next t := by
  refine ⟨fun e f x y hx hy hk ht hs => ?_, fun e x hx => ?_, step_of (by decide +kernel)⟩
  · have h := entries_of (s := busy) (f := fun e x => (List.finRange 16).all fun f =>
      match busy.entry f with
      | some y => !(x.kind == y.kind && x.target == y.target && x.source == y.source) || e == f
      | none => true) (by decide +kernel) e x hx
    have h' := List.all_eq_true.mp h f (List.mem_finRange f)
    simpa [hy, hk, ht, hs] using h'
  · simpa using entries_of (s := busy)
      (f := fun _ x => x.suspended == (busy.sc.airRequest && x.airInFront busy.cfg))
      (by decide +kernel) e x hx

/-- FRONT-2 before the pass of section 2.9, NORMAL, with the pass waiting. -/
def regulated : State :=
  { front2.modZone 2 fun r => r.withReasons ⟨false, false, false, false, false⟩ with
    pending := [.regulationPass] }

theorem witness_integrators :
    regulated.integratorsRight ∧ ∃ t, step regulated = .next t := by
  refine ⟨⟨fun v => ?_, ?_⟩, step_of (by decide +kernel)⟩
  · have h : (allValues.all fun v =>
        ((regulated.value v).quality == .missing) == (regulated.value v).value.isNone) = true := by
      decide +kernel
    have hv : v ∈ allValues := by
      cases v with
      | air z => revert z; decide
      | outside n => cases n <;> decide
      | glass => decide
      | humidity => decide
    have := List.all_eq_true.mp h v hv
    cases hq : (regulated.value v).quality <;> cases hx : (regulated.value v).value <;>
      simp_all
  · unfold ZoneRec.integratorRight
    decide +kernel

theorem witness_floor :
    ({ State.reset with pending := [.energy] } : State).floorRight ∧
      ∃ t, step { State.reset with pending := [.energy] } = .next t :=
  ⟨by unfold State.floorRight; decide +kernel, step_of (by decide +kernel)⟩

/-- A state in GAP with an expiry waiting. -/
def gapped : State :=
  { State.reset with
    pa := { State.reset.pa with line := .gap, preGapDraw := 262, dewireTimer := some 10000 }
    pending := [.dewireTimerExpiry] }

theorem witness_gap :
    gapped.gapRight ∧ gapped.pa.line ≠ .present ∧ gapped.surplusRight ∧ gapped.slotsRight ∧
      ∃ t, step gapped = .next t := by
  refine ⟨?_, by decide +kernel, ?_, ?_, step_of (by decide +kernel)⟩
  · unfold State.gapRight State.heatersOff; decide +kernel
  · unfold State.surplusRight; decide +kernel
  · unfold State.slotsRight; decide +kernel

theorem witness_demands :
    busy.demandsRight ∧ busy.slotsRight ∧ busy.airEntriesRight ∧ ∃ t, step busy = .next t := by
  refine ⟨fun z => ⟨?_, fun cap hc => ?_, ?_⟩, ?_, witness_table.2⟩
  · revert z; decide +kernel
  · have h : ∀ z : ZoneNo, (match busy.zoneCap z with
        | some c => decide (busy.screenPart z (·.demand) + (busy.member (baseMember z)).demand +
            (busy.member (doorMember z)).demand ≤ c)
        | none => true) = true := by decide +kernel
    have := h z
    rw [hc] at this
    exact of_decide_eq_true this
  · revert z; decide +kernel
  · unfold State.slotsRight; decide +kernel

/-- The members of a state that stands right after reset, moved to a moment and with a link changed, are at
their clamps, and its AIR states are right. -/
theorem clamps_of {s : State}
    (h : (allZones.all fun z => s.zoneDemands z == s.clampedParts z) = true)
    (hf : (s.member filmMember).demand = s.clampedOwned .screen (s.member filmMember).posted)
    (hd : (allDoors.all fun d => (s.member (curtainMember d)).demand ==
      s.clampedOwned (.curtain d) (s.member (curtainMember d)).posted) = true) : AllClamped s := by
  refine ⟨fun z => ?_, hf, fun d => ?_⟩
  · simpa using List.all_eq_true.mp h z (List.mem_finRange z)
  · simpa using List.all_eq_true.mp hd d (List.mem_finRange d)

theorem witness_clamps : AllClamped pass300 ∧ pass300.slotsRight ∧ ∃ t, step pass300 = .next t :=
  ⟨clamps_of (by decide +kernel) (by decide +kernel) (by decide +kernel),
    by unfold State.slotsRight; decide +kernel, step_of (by decide +kernel)⟩

/-- A budget of 300 HS of which the film and the screen part hold 35. -/
def granted : State :=
  ((busy.modClass .screen fun k => { k with grant := 35 }).modMember 0 fun r =>
    { r with grant := 15 }).modMember 1 fun r => { r with grant := 20 }

theorem witness_grants : granted.grantsRight ∧ ∃ t, step granted = .next t := by
  refine ⟨⟨by decide +kernel, fun c => ?_⟩, step_of (by decide +kernel)⟩
  cases c <;> decide +kernel

/-- A budget of 5 HS, granted to the film, which draws 15 HS with the 10 HS that it absorbs. -/
def absorbing : State :=
  let s := (powered 5 State.reset).modSurplus fun r =>
    { r with isOpen := true, offered := 10, accepted := 10, endTime := some 800 }
  let s := (s.setAbsorbed 20 10).modElem 20 fun e => { e with granted := 5, duty := 32, draw := 15 }
  let s := (s.modMember 0 fun r => { r with grant := 5 }).modClass .screen fun k => { k with grant := 5 }
  { s with pending := [.surplusWindowEndTime] }

theorem factory_map : factory.mapKept :=
  ⟨by decide +kernel, by decide +kernel, by decide +kernel⟩

theorem absorbing_map : absorbing.cfg.mapKept := by
  have h : absorbing.cfg = factory := by decide +kernel
  exact h ▸ factory_map

theorem absorbing_grants : absorbing.grantsRight := by
  refine ⟨by decide +kernel, fun c => ?_⟩
  cases c <;> decide +kernel

theorem absorbing_links (n : Node) (h : (absorbing.link n).heldDraw ≠ 0) :
    (absorbing.link n).state = .lost ∧ (absorbing.link n).heldTimer ≠ none := by
  cases n <;> exact absurd h (by decide +kernel)

theorem absorbing_elems :
    (∀ i, (absorbing.elem i).state ≠ .inService →
      (absorbing.elem i).closed = false ∧ (absorbing.elem i).draw = 0 ∧ absorbing.absorbed i = 0) ∧
    ∀ i, (absorbing.elem i).closed = true → (absorbing.slot i).kind = .contactor := by
  decide +kernel

theorem absorbing_queue : absorbing.queueRight ∧ absorbing.slotsRight := by
  unfold State.queueRight State.slotsRight
  decide +kernel

theorem absorbing_contactors (z : ZoneNo) : absorbing.closedOrQueued z ≤ absorbing.zoneGrant z := by
  revert z
  decide +kernel

theorem absorbing_within :
    absorbing.drawWithin ∧ (allSlots.map absorbing.absorbed).sum ≤ absorbing.openSurplus ∧
      absorbing.accountedDraw = absorbing.budget + 10 := by
  unfold State.drawWithin
  decide +kernel

/-- 5 HS of budget and 10 HS of surplus just carry the accounted draw of 15. -/
theorem witness_draw :
    absorbing.drawRight ∧ absorbing.queueRight ∧ absorbing.slotsRight ∧
      absorbing.accountedDraw = absorbing.budget + 10 ∧ ∃ t, step absorbing = .next t :=
  ⟨⟨absorbing_within.1, absorbing_map, absorbing_grants, absorbing_elems.1, absorbing_elems.2,
    absorbing_contactors, absorbing_links, absorbing_within.2.1⟩, absorbing_queue.1, absorbing_queue.2, absorbing_within.2.2,
    step_of (by decide +kernel)⟩

theorem witness_orders :
    busy.linksSettled ∧ (∀ n, (busy.link n).slotsDistinct) ∧ (busy.link .front).window ≠ [] ∧
      ∃ t, step busy = .next t := by
  refine ⟨settled_of (by decide +kernel), fun n => ?_, by decide +kernel, step_of (by decide +kernel)⟩
  unfold LinkCtx.slotsDistinct
  cases n <;> decide +kernel

/-- Door 2 has been open for 18 s, and the input that closes it waits. -/
theorem witness_doors :
    ({ door2 with pending := [.doorInputFilterExpiry 1] } : State).doorsRight ∧
      (door2.door 1).state = .open ∧
      ∃ t, step { door2 with pending := [.doorInputFilterExpiry 1] } = .next t :=
  ⟨by unfold State.doorsRight; decide +kernel, rfl, step_of (by decide +kernel)⟩

theorem witness_notices_held :
    (Instr.readNotices .power 0 []).wellFormed = true ∧
      Instr.readNotices .power 0 [] ≠ .deviceReset ∧
      (∀ q ch stop, Instr.readNotices .power 0 [] ≠ .masterCharacterReceived q ch stop) ∧
      (∀ tag body, Instr.readNotices .power 0 [] ≠ .readNotices .desk tag body) ∧
      (∃ t, exec (.readNotices .power 0 []) State.reset = .next t) ∧
      State.reset.holdsNotice .desk .configDefaulted = true :=
  ⟨by decide, by decide, by simp, by simp, next_of (by decide +kernel), by decide⟩

/-! Requests. -/

/-- Every port holds four replies. -/
def fullQueues : State :=
  let full (c : PortCtx) : PortCtx :=
    { c with replies := List.replicate 4 { kind := 0x82, tag := 0, body := [0] } }
  let u := State.reset.mpu
  { State.reset with mpu := { desk := full u.desk, power := full u.power, service := full u.service } }

theorem witness_request_full :
    requestOf (.readNotices .desk 0 []) = some (.desk, 0x02, 0, []) ∧ fullQueues.linksSettled ∧
      4 ≤ (fullQueues.port .desk).replies.length :=
  ⟨rfl, settled_of (by decide +kernel), by decide +kernel⟩

/-- The kinds 00h and 10h stand on either side of those that name a request. -/
theorem witness_request_kind :
    requestOf (.unknownRequest .desk 0x10 0 []) = some (.desk, 0x10, 0, []) ∧
      requestOf (.unknownRequest .desk 0x00 0 []) = some (.desk, 0x00, 0, []) ∧
      State.reset.linksSettled ∧ State.reset.hasRoom .desk ∧
      (∀ ports len, ((0x10 : Byte).toNat, ports, len) ∉ requestTable) ∧
      ∀ ports len, ((0x00 : Byte).toNat, ports, len) ∉ requestTable :=
  ⟨rfl, rfl, reset_settled, reset_room _, by simp [requestTable], by simp [requestTable]⟩

theorem witness_request_role_and_length :
    requestOf (.placeOverride .power 0 []) = some (.power, 0x04, 0, []) ∧
      requestOf (.placeOverride .desk 0 []) = some (.desk, 0x04, 0, []) ∧
      State.reset.linksSettled ∧ State.reset.hasRoom .power ∧ State.reset.hasRoom .desk ∧
      ((0x04 : Byte).toNat, [.desk, .service], 7) ∈ requestTable ∧
      Port.power ∉ [Port.desk, .service] ∧ Port.desk ∈ [Port.desk, .service] ∧
      ([] : List Byte).length ≠ 7 :=
  ⟨rfl, rfl, reset_settled, reset_room _, reset_room _, by simp [requestTable], by decide,
    by decide, by decide⟩

/-- Room and settled links are all that READ-OBJECT of a zone and READ-NOTICES ask for. -/
theorem witness_read_zone_and_notices :
    ∀ p, State.reset.hasRoom p ∧ State.reset.linksSettled :=
  fun p => ⟨reset_room p, reset_settled⟩

theorem witness_read_node :
    State.reset.hasRoom .desk ∧ State.reset.linksSettled ∧ ((0x08 : Byte) = 0x08) ∧
      (0x00 : Byte).toNat = Node.front.code ∧ (0x01 : Byte).toNat = Node.rear.code ∧
      11 < (0x0C : Byte).toNat ∧ ¬ 11 < (0x0B : Byte).toNat ∧ (0x0B : Byte) ≠ 0x08 :=
  ⟨reset_room _, reset_settled, by decide, by decide, by decide, by decide, by decide, by decide⟩

/-- The first index outside each object's range, and the last within it; the readouts of the first and the
last item. -/
theorem witness_read_outside :
    (6 ≤ (0x06 : Byte).toNat ∧ ¬ 6 ≤ (0x05 : Byte).toNat ∧ 2 ≤ (0x02 : Byte).toNat ∧
      ¬ 2 ≤ (0x01 : Byte).toNat ∧ ((0x00 : Byte).toNat = 0 ∨ 5 ≤ (0x00 : Byte).toNat) ∧
      ¬ ((0x04 : Byte).toNat = 0 ∨ 5 ≤ (0x04 : Byte).toNat) ∧ 5 ≤ (0x05 : Byte).toNat ∧
      24 ≤ (0x18 : Byte).toNat ∧ ¬ 24 ≤ (0x17 : Byte).toNat ∧ 16 ≤ (0x10 : Byte).toNat ∧
      ¬ 16 ≤ (0x0F : Byte).toNat ∧ 8 ≤ (0x08 : Byte).toNat ∧ ¬ 8 ≤ (0x07 : Byte).toNat) ∧
    Item.ofCodes? (0x05 : Byte).toNat (0x00 : Byte).toNat = none ∧
    Item.ofCodes? (0x04 : Byte).toNat (0x18 : Byte).toNat = none ∧
    Item.ofCodes? (0x04 : Byte).toNat (0x17 : Byte).toNat = some (.weight 3 5) ∧
    Item.ofCodes? (0x01 : Byte).toNat (0x00 : Byte).toNat = some .sensorHold ∧
    Item.ofCodes? (0x65 : Byte).toNat (0x00 : Byte).toNat = some .driverExpiry := by decide

/-- The lengths of the records of R194. -/
theorem test_record_lengths :
    (([[1, 0, 0], [2, 1, 0], [3, 0, 0], [4, 0, 0], [4, 0, 1], [5, 0, 0], [7, 0, 0], [8, 1, 0], [9, 0, 0],
        [10, 0, 0], [10, 1, 0], [11, 0, 0]] : List (List Byte)).map fun b =>
      ((lastReply (after [.readObject .desk 0 b] State.reset) .desk).map List.length).map (· - 4)) =
    [10, 63, 36, 96, 84, 26, 4, 69, 96, 3, 21, 48].map some := by decide +kernel

theorem witness_notice_mask :
    State.reset.hasRoom .desk ∧ State.reset.linksSettled ∧
      ((0x0F : Byte).toNat < 16 ∧ (0x01 : Byte).toNat < 2) ∧
      ¬ ((0x10 : Byte).toNat < 16 ∧ (0x01 : Byte).toNat < 2) ∧
      ¬ ((0x0F : Byte).toNat < 16 ∧ (0x02 : Byte).toNat < 2) :=
  ⟨reset_room _, reset_settled, by decide, by decide, by decide⟩

/-! Overrides. -/

/-- A value of −32767 for AIR from SERVICE on FRONT, and a DEFROST without a value from DESK. -/
theorem witness_placement_fields :
    (Port.service ≠ .power ∧ OverrideKind.ofCode? (0x03 : Byte).toNat = some .air ∧
      Target.ofCodes? (0x01 : Byte).toNat (0x02 : Byte).toNat = some (.group 2) ∧
      acceptsTarget State.reset.cfg .air (.group 2) = true ∧
      (OverrideKind.air = .defrost → Port.service = .desk) ∧
      ((0x80 : Byte) ++ (0x01 : Byte)).toInt ≠ -32768) ∧
    (Port.desk ≠ .power ∧ OverrideKind.ofCode? (0x04 : Byte).toNat = some .defrost ∧
      Target.ofCodes? (0x03 : Byte).toNat (0x00 : Byte).toNat = some .screen ∧
      acceptsTarget State.reset.cfg .defrost .screen = true ∧
      (OverrideKind.defrost = .defrost → Port.desk = .desk) ∧
      (OverrideKind.defrost = .setpointShift ∨ OverrideKind.defrost = .zoneCap ∨
        OverrideKind.defrost = .air → ((0x80 : Byte) ++ (0x00 : Byte)).toInt ≠ -32768)) := by
  decide +kernel

/-- Minutes 0, 240, 241 and FFFFh of an AIR placement: the default, 240, 240 clamped, and from SERVICE none.
-/
theorem witness_placement_minutes :
    (let fields (p : Port) (mh ml : Byte) : Option (Option Nat × Bool) :=
       match State.reset.checkPlacement p [3, 1, 2, 0, 40, mh, ml] with
       | .inl x => some (x.minutes, x.clamped)
       | .inr _ => none
     [(0x00#8, 0x00#8), (0x00, 0xF0), (0x00, 0xF1), (0xFF, 0xFF)].map fun m =>
       (fields .desk m.1 m.2, fields .service m.1 m.2)) =
      [(some (some 30, false), some (some 30, false)),
        (some (some 240, false), some (some 240, false)),
        (some (some 240, true), some (some 240, true)),
        (some (some 30, true), some (none, false))] ∧
    [(0x00#8 ++ 0x00#8).toNat, (0x00#8 ++ 0xF0#8).toNat, (0x00#8 ++ 0xF1#8).toNat,
      (0xFF#8 ++ 0xFF#8).toNat] = [0, 240, 241, 65535] ∧
    Target.ofCodes? (0x01 : Byte).toNat (0x02 : Byte).toNat = some (.group 2) ∧
    acceptsTarget State.reset.cfg .air (.group 2) = true ∧
    ((0x00 : Byte) ++ (0x28 : Byte)).toInt ≠ -32768 := by decide +kernel

/-- The checked placement of a shift of +5 on FRONT-1 from a port, expiring after 30 min. -/
def shiftPlacement (src : Source) : Placement :=
  { kind := .setpointShift, target := .zone 1, source := src, value := some 5, minutes := some 30,
    clamped := false }

def shiftBody : List Byte :=
  [0x00, 0x00, 0x01, 0x00, 0x05, 0x00, 0x00]

/-- A full table: shifts, zones off and curtains off; the first `n` entries from SERVICE. -/
def fullTable (n : Nat) : State :=
  withEntries ((List.range 16).map fun i =>
    entryOf (if i < 6 then .zoneCap else if i < 12 then .zoneOff else .curtainOff)
      (if h : i < 6 then .zone ⟨i, h⟩ else if h : i < 12 then .zone ⟨i - 6, by omega⟩
        else .door ⟨(i - 12) % 4, by omega⟩)
      (if i < n then .service else .desk) none i) State.reset

theorem witness_place_twin :
    let s := withEntries [entryOf .setpointShift (.zone 1) .desk (some 9) 7] State.reset
    s.hasRoom .desk ∧ Port.desk ≠ .power ∧ shiftBody.length = 7 ∧
      s.checkPlacement .desk shiftBody = .inl (shiftPlacement .desk) ∧ s.ot.running < 65535 ∧
      s.tableRight ∧ s.entry 0 = some (entryOf .setpointShift (.zone 1) .desk (some 9) 7) ∧
      (OverrideKind.setpointShift = (shiftPlacement .desk).kind ∧
        Target.zone 1 = (shiftPlacement .desk).target ∧
        Source.desk = (shiftPlacement .desk).source) := by
  refine ⟨room_of (by decide +kernel), by decide, by decide, by decide +kernel, by decide +kernel,
    fun e f x y hx hy _ _ _ => ?_, by decide +kernel, by decide⟩
  have he := entries_of (f := fun e _ => e == 0) (by decide +kernel) e x hx
  have hf := entries_of (f := fun e _ => e == 0) (by decide +kernel) f y hy
  simp_all

/-- Whether an entry is no twin of a placement. -/
def noTwin (x : Placement) (y : Entry) : Bool :=
  !(y.kind == x.kind && y.target == x.target && y.source == x.source)

theorem noTwin_not {x : Placement} {y : Entry} (h : noTwin x y = true) :
    ¬ (y.kind = x.kind ∧ y.target = x.target ∧ y.source = x.source) := by
  rintro ⟨h1, h2, h3⟩
  simp [noTwin, h1, h2, h3] at h

/-- The lowest empty slot of a table of three entries is slot 3. -/
theorem witness_place_empty :
    busy.hasRoom .desk ∧ busy.checkPlacement .desk shiftBody = .inl (shiftPlacement .desk) ∧
      busy.ot.running < 65535 ∧
      (∀ e y, busy.entry e = some y → ¬ (y.kind = (shiftPlacement .desk).kind ∧
        y.target = (shiftPlacement .desk).target ∧ y.source = (shiftPlacement .desk).source)) ∧
      busy.entry 3 = none ∧ ∀ f : EntryNo, f < 3 → busy.entry f ≠ none :=
  ⟨room_of (by decide +kernel), by decide +kernel, by decide +kernel,
    fun e y hy => noTwin_not (entries_of (f := fun _ y => noTwin _ y) (by decide +kernel) e y hy),
    by decide +kernel, by decide +kernel⟩

/-- A full table whose oldest SERVICE entry stands in slot 0. -/
theorem witness_place_evicts :
    let s := fullTable 8
    s.hasRoom .desk ∧ s.checkPlacement .desk shiftBody = .inl (shiftPlacement .desk) ∧
      s.ot.running < 65535 ∧
      (∀ e y, s.entry e = some y → ¬ (y.kind = (shiftPlacement .desk).kind ∧
        y.target = (shiftPlacement .desk).target ∧ y.source = (shiftPlacement .desk).source)) ∧
      (∀ e, s.entry e ≠ none) ∧ (shiftPlacement .desk).source = .desk ∧
      s.entry 0 = some (entryOf .zoneCap (.zone 0) .service none 0) ∧
      ∀ f z, f ≠ 0 → s.entry f = some z → z.source = .service → 0 < z.seq := by
  refine ⟨room_of (by decide +kernel), by decide +kernel, by decide +kernel,
    fun e y hy => noTwin_not (entries_of (f := fun _ y => noTwin _ y) (by decide +kernel) e y hy),
    by decide +kernel, rfl, by decide +kernel, fun f z hf hz _ => ?_⟩
  have := entries_of (f := fun e y => e == 0 || decide (0 < y.seq)) (by decide +kernel) f z hz
  simpa [hf] using this

/-- A full table refuses SERVICE, and DESK when it holds DESK entries alone. -/
theorem witness_place_full :
    ((fullTable 8).hasRoom .service ∧
      (fullTable 8).checkPlacement .service shiftBody = .inl (shiftPlacement .service) ∧
      (fullTable 8).linksSettled ∧ (∀ e, (fullTable 8).entry e ≠ none) ∧
      (shiftPlacement .service).source = .service) ∧
    (fullTable 0).hasRoom .desk ∧
      (fullTable 0).checkPlacement .desk shiftBody = .inl (shiftPlacement .desk) ∧
      (fullTable 0).linksSettled ∧ (∀ e, (fullTable 0).entry e ≠ none) ∧
      ∀ e y, (fullTable 0).entry e = some y → y.source = .desk := by
  refine ⟨⟨room_of (by decide +kernel), by decide +kernel, settled_of (by decide +kernel),
    by decide +kernel, rfl⟩, room_of (by decide +kernel), by decide +kernel,
    settled_of (by decide +kernel), by decide +kernel, fun e y hy => ?_⟩
  simpa using entries_of (f := fun _ y => y.source == .desk) (by decide +kernel) e y hy

/-- Sequences 100, 40 and 65534 with the running number at its end. -/
theorem witness_renumbering :
    let s := withEntries [entryOf .zoneOff (.zone 0) .service none 100,
      entryOf .zoneOff (.zone 1) .service none 40,
      entryOf .zoneOff (.zone 2) .service none 65534] State.reset
    let t : State := { s with ot := { s.ot with running := 65535 } }
    t.hasRoom .desk ∧ t.checkPlacement .desk shiftBody = .inl (shiftPlacement .desk) ∧
      t.ot.running = 65535 ∧ t.entry 3 = none ∧ (∀ f : EntryNo, f < 3 → t.entry f ≠ none) ∧
      ∀ f y, t.entry f = some y → y.seq < 65535 ∧
        ¬ (y.kind = (shiftPlacement .desk).kind ∧ y.target = (shiftPlacement .desk).target ∧
          y.source = (shiftPlacement .desk).source) := by
  refine ⟨room_of (by decide +kernel), by decide +kernel, rfl, by decide +kernel,
    by decide +kernel, fun f y hy => ?_⟩
  have h := entries_of (f := fun _ y => decide (y.seq < 65535) &&
    noTwin (shiftPlacement .desk) y) (by decide +kernel) f y hy
  simp only [Bool.and_eq_true, decide_eq_true_eq] at h
  exact ⟨h.1, noTwin_not h.2⟩

/-- The refused placements of R153: a DEFROST from SERVICE; codes one past their ranges; an absent shift; a
door for a shift; an empty group; an AIR on ALL, which lies in both sections. -/
theorem witness_placement_refused :
    State.reset.hasRoom .service ∧ Port.service ≠ .power ∧ State.reset.linksSettled ∧
      ((0x04 : Byte) = 4 ∧ Port.service = .service) ∧ ¬ ((0x00 : Byte) = 4 ∧ Port.service = .service) ∧
      5 < (0x06 : Byte).toNat ∧ 3 < (0x04 : Byte).toNat ∧ 6 ≤ (0x06 : Byte).toNat ∧
      8 ≤ (0x08 : Byte).toNat ∧ 5 ≤ (0x05 : Byte).toNat ∧
      ((0x00 : Byte) = 0 ∧ (0x80 : Byte) = 0x80 ∧ (0x00 : Byte) = 0x00) ∧
      ((0x00 : Byte).toNat ≤ 2 ∧ 2 ≤ (0x02 : Byte).toNat) ∧
      ((0x04 : Byte).toNat = (4 : Fin 8).val ∧ State.reset.cfg.groupMask 4 = 0) ∧
      ((0x00 : Byte).toNat = (0 : Fin 8).val ∧ State.reset.cfg.groupSection 0 = .both) :=
  ⟨reset_room _, by decide, reset_settled, by decide, by decide, by decide, by decide, by decide,
    by decide, by decide, by decide, by decide, by decide +kernel, by decide +kernel⟩

/-- A DEFROST entry in slot 15 that owns the cycle. -/
def defrosting : State :=
  let s := { State.reset with ot :=
    { slots := Vector.ofFn fun e => if e = 15 then some (entryOf .defrost .screen .desk none 3) else none
      running := 4 } }
  s.modScreen fun r =>
    { r with state := .defrost, acting := none, origin := .placed, defrostTimer := some 480000 }

theorem witness_cancel :
    (defrosting.hasRoom .desk ∧ Port.desk ≠ .power ∧ defrosting.linksSettled) ∧
    (∃ y, defrosting.entry 15 = some y ∧ y.source = .desk ∧ y.kind = .defrost) ∧
    (defrosting.sc.state = .defrost ∧ defrosting.sc.origin = .placed ∧
      ∀ f z, f ≠ 15 → defrosting.entry f = some z → z.kind ≠ .defrost) ∧
    (busy.hasRoom .desk ∧ busy.linksSettled ∧ ∃ y, busy.entry 0 = some y ∧ y.source ≠ .desk) ∧
    defrosting.entry 0 = none ∧ 16 ≤ (0x10 : Byte).toNat := by
  refine ⟨⟨room_of (by decide +kernel), by decide, settled_of (by decide +kernel)⟩,
    ⟨_, rfl, rfl, rfl⟩, ⟨rfl, rfl, fun f z hf hz => ?_⟩,
    ⟨room_of (by decide +kernel), settled_of (by decide +kernel), _, rfl, by decide⟩,
    by decide +kernel, by decide⟩
  have := entries_of (f := fun e _ => e == 15) (by decide +kernel) f z hz
  simp_all

theorem witness_shift_change :
    busy.hasRoom .desk ∧ (∃ y, busy.entry 2 = some y ∧ y.source = .desk) ∧
      (∃ y, busy.entry 0 = some y ∧ y.source = .service) ∧ busy.entry 15 = none :=
  ⟨room_of (by decide +kernel), ⟨_, rfl, rfl⟩, ⟨_, rfl, rfl⟩, by decide +kernel⟩

/-- An entry that expires at 60000. -/
def expiring (now : Nat) : State :=
  { withEntries [{ entryOf .zoneOff (.zone 0) .desk none 0 with expiry := some 60000 }] State.reset
    with now := now }

theorem witness_override_expiry :
    (∃ y, (expiring 60000).entry 0 = some y ∧ y.expiry = some 60000 ∧
      60000 ≤ (expiring 60000).now) ∧
    (∀ y m, (expiring 59999).entry 0 = some y → y.expiry = some m → (expiring 59999).now < m) ∧
      (expiring 59999).linksSettled := by
  refine ⟨⟨_, rfl, rfl, by decide⟩, fun y m hy hm => ?_, settled_of (by decide +kernel)⟩
  have h := entries_of (f := fun _ y => y.expiry == some 60000) (by decide +kernel) 0 y hy
  have h' : y.expiry = some 60000 := by simpa using h
  rw [h', Option.some.injEq] at hm
  subst hm
  decide

/-- The placement of DEFROST without a value, of a default time. -/
def defrostPlacement : Placement :=
  { kind := .defrost, target := .screen, source := .desk, value := none, minutes := some 30,
    clamped := false }

/-- A DEFROST into an empty table and over the one held, whose cycle runs; a shift beside three entries; the
removal of the entry that owns the cycle; the members of groups 4 and 7. -/
theorem witness_handed_on :
    (State.reset.hasRoom .desk ∧
      State.reset.checkPlacement .desk [4, 3, 0, 0x80, 0, 0, 0] = .inl defrostPlacement ∧
      State.reset.entry 0 = none ∧ State.reset.sc.state ≠ .defrost) ∧
    (defrosting.hasRoom .desk ∧
      defrosting.checkPlacement .desk [4, 3, 0, 0x80, 0, 0, 0] = .inl defrostPlacement ∧
      (∃ y, defrosting.entry 15 = some y ∧ y.kind = defrostPlacement.kind ∧
        y.target = defrostPlacement.target ∧ y.source = defrostPlacement.source) ∧
      defrosting.sc.state = .defrost ∧ defrosting.sc.acting = none ∧
      defrosting.sc.origin = .placed) ∧
    (busy.hasRoom .desk ∧ busy.checkPlacement .desk shiftBody = .inl (shiftPlacement .desk) ∧
      busy.entry 3 = none ∧ (shiftPlacement .desk).kind ≠ .defrost) ∧
    State.reset.hasRoom .service ∧ 4 ≤ (4 : Fin 8).val ∧ 4 ≤ (7 : Fin 8).val ∧
      (0x3F : Byte).toNat < 64 ∧ (State.reset.cfg.groupMask 4).toNat ≠ (0x3F : Byte).toNat ∧
      (State.reset.cfg.groupMask 7).toNat ≠ (0x01 : Byte).toNat ∧
      State.reset.sc.airRequest = true :=
  ⟨⟨reset_room _, by decide +kernel, by decide +kernel, by decide +kernel⟩,
    ⟨room_of (by decide +kernel), by decide +kernel, ⟨_, rfl, rfl, rfl, rfl⟩, rfl, rfl, rfl⟩,
    ⟨room_of (by decide +kernel), by decide +kernel, by decide +kernel, by decide⟩,
    reset_room _, by decide, by decide, by decide, by decide +kernel, by decide +kernel,
    by decide +kernel⟩

/-- A ZONE-OFF on SALOON, a cap on the CAB and a CURTAIN-OFF on door 4 change those resolutions and no
other. -/
theorem test_resolutions_change :
    let t := after [.placeOverride .desk 0 [1, 1, 1, 0x80, 0, 0, 0],
      .placeOverride .desk 0 [2, 0, 0, 0, 10, 0, 0],
      .placeOverride .desk 0 [5, 2, 4, 0x80, 0, 0, 0]] State.reset
    allZones.map (fun z => (t.zoneOff z, t.zoneCap z)) =
        [(false, some 10), (true, none), (true, none), (true, none), (true, none), (true, none)] ∧
      allDoors.map t.curtainOff = [false, false, false, true] ∧
      (t.member screenPartMember).demand = 10 := by decide +kernel

/-! Power. -/

theorem witness_set_envelope : State.reset.hasRoom .power := reset_room _

/-- A state at a moment. -/
def at_ (now : Nat) (s : State) : State :=
  { s with now := now }

theorem witness_lapse :
    due (at_ 1000 State.reset).pa.envTimer 1000 = true ∧
      due (at_ 999 State.reset).pa.envTimer 999 = false ∧ (at_ 999 State.reset).linksSettled :=
  ⟨by decide +kernel, by decide +kernel, settled_of (by decide +kernel)⟩

/-- The film is the one eligible element, with its whole rating as headroom. -/
def offering : State :=
  (powered 300 State.reset).modValue .glass fun r => { r with value := some 120, quality := .fresh }

/-- A window that is open until 800, with 10 HS in the film. -/
def windowOpen : State :=
  (offering.modSurplus fun r =>
    { r with isOpen := true, offered := 50, accepted := 10, endTime := some 800 }).setAbsorbed 20 10

theorem witness_offer :
    offering.hasRoom .power ∧ (offering.pa.line = .present ∧ offering.pa.envState ≠ .none) ∧
      0 < min 50 (((allSlots.filter offering.eligible).map offering.headroom).sum) ∧
      offering.eligible 0 = false ∧ offering.slotsRight ∧ offering.queueHasRoom ∧
      (let s := { windowOpen with pa := { windowOpen.pa with envState := .none } }
       s.hasRoom .power ∧ ¬ (s.pa.line = .present ∧ s.pa.envState ≠ .none) ∧
         s.pa.surplus.isOpen = true) := by
  refine ⟨room_of (by decide +kernel), by decide +kernel, by decide +kernel, by decide +kernel, ?_, ?_,
    room_of (by decide +kernel), by decide +kernel, rfl⟩
  · unfold State.slotsRight; decide +kernel
  · unfold State.queueHasRoom; decide +kernel

/-- No counter freezes the others, and one is set to each event that a statement has signalled. -/
theorem witness_signalled :
    (∀ k : Fin 8, State.reset.ac[k].setup.freezeOnOverflow = false) ∧
      ∀ ev ∈ [CountedEvent.overridePlaced, .surplusOffered, .surplusAccepted, .gap, .dewire,
          .forcedShed, .lateEcho, .demistEntry],
        let s : State := { State.reset with ac := updV State.reset.ac 0 fun k =>
          { k with setup := { k.setup with event := ev, enable := true } } }
        s.ac[(0 : Fin 8)].setup.event = ev ∧ ∀ k : Fin 8, s.ac[k].setup.freezeOnOverflow = false := by
  decide +kernel

/-- An offer of 50 HS finds 30 HS of headroom in the film, and the pass that grants the film its 15 HS trims
the absorbed 30 to 15 (R109, R111). -/
theorem test_events_counted :
    let counter (i : Fin 8) (ev : CountedEvent) (s : State) : State :=
      { s with ac := updV s.ac i fun k =>
        { k with setup := { k.setup with event := ev, mode := .sum, mask := 0xFF, enable := true } } }
    let s := counter 0 .surplusOffered (counter 1 .surplusAccepted (counter 2 .shortfallPass
      (counter 3 .forcedShed offering)))
    let t := after [.offerSurplus .power 0 [0x00, 0x32, 0x03, 0x20]] s
    ([0, 1, 2, 3].map fun i : Fin 8 => t.ac[i].value) = [50, 30, 0, 0] ∧
      (t.pa.surplus.accepted, (t.elem 20).granted, t.absorbed 20, (t.elem 20).duty) = (30, 15, 15, 64) := by
  decide +kernel

theorem witness_window_end :
    (windowOpen.hasRoom .power ∧ windowOpen.pa.surplus.isOpen = true) ∧
      (offering.hasRoom .power ∧ offering.pa.surplus.isOpen = false ∧ offering.linksSettled) ∧
      due (at_ 800 windowOpen).pa.surplus.endTime 800 = true ∧
      due (at_ 799 windowOpen).pa.surplus.endTime 799 = false ∧ (at_ 799 windowOpen).linksSettled :=
  ⟨⟨room_of (by decide +kernel), rfl⟩, ⟨room_of (by decide +kernel), rfl,
    settled_of (by decide +kernel)⟩, by decide +kernel, by decide +kernel,
    settled_of (by decide +kernel)⟩

/-- The raw LINE has stood at a level since 0, the filtered level being the other. -/
def lineAt (l : PinLevel) (f : Filtered) (now : Nat) (s : State) : State :=
  (at_ now s).modInput lineInput fun _ => { raw := l, stableSince := 0, filtered := f }

/-- The drop filter of 4 ms and the restore filter of 100 ms at their last millisecond. -/
theorem witness_line :
    (let s := lineAt .low .active 4 windowOpen
     s.filterDue lineInput = true ∧ s.sense lineInput = .inactive ∧ s.pa.line = .present ∧
       s.pa.surplus.isOpen = true) ∧
    (let s := lineAt .high .inactive 100 gapped
     s.filterDue lineInput = true ∧ s.sense lineInput = .active ∧ s.pa.line ≠ .present) ∧
    (let s := lineAt .low .unsettled 4 gapped
     s.linksSettled ∧ s.filterDue lineInput = true ∧ s.sense lineInput = .inactive ∧
       s.pa.line ≠ .present) ∧
    (let s := lineAt .high .unsettled 100 windowOpen
     s.linksSettled ∧ s.filterDue lineInput = true ∧ s.sense lineInput = .active ∧
       s.pa.line = .present) ∧
    (lineAt .low .active 3 windowOpen).linksSettled ∧
      (lineAt .low .active 3 windowOpen).filterDue lineInput = false := by
  refine ⟨?_, ?_, settled_and ?_, settled_and ?_, settled_and ?_⟩ <;> decide +kernel

/-- A ceiling of 292 HS in steps, and of 990 under an envelope of 1000. -/
def ceilingAt (c : Nat) : State :=
  let s := powered 1000 State.reset
  { s with pa := { s.pa with ceiling := c, ceilingActive := true, stepTimer := some 250 } }

theorem witness_dewire_and_restore :
    (gapped.pa.line = .gap ∧ due (at_ 10000 gapped).pa.dewireTimer 10000 = true) ∧
      (due (at_ 9999 gapped).pa.dewireTimer 9999 = false ∧ (at_ 9999 gapped).linksSettled) ∧
      ((ceilingAt 990).pa.ceilingActive = true ∧
        due (at_ 250 (ceilingAt 990)).pa.stepTimer 250 = true) ∧
      due (at_ 249 (ceilingAt 990)).pa.stepTimer 249 = false ∧
      (at_ 249 (ceilingAt 990)).linksSettled :=
  ⟨by decide +kernel, ⟨by decide +kernel, settled_of (by decide +kernel)⟩, by decide +kernel,
    by decide +kernel, settled_of (by decide +kernel)⟩

/-- The allocation timer of 250 ms and the screen's notice timer of 30 s after reset. -/
theorem witness_allocation :
    due (at_ 250 State.reset).pa.allocTimer 250 = true ∧
      due (at_ 249 State.reset).pa.allocTimer 249 = false ∧ (at_ 249 State.reset).linksSettled ∧
      due ((at_ 30000 State.reset).class .screen).timer 30000 = true ∧
      (at_ 30000 State.reset).linksSettled ∧
      due ((at_ 29999 State.reset).class .screen).timer 29999 = false ∧
      (at_ 29999 State.reset).linksSettled :=
  ⟨by decide +kernel, by decide +kernel, settled_of (by decide +kernel), by decide +kernel,
    settled_of (by decide +kernel), by decide +kernel, settled_of (by decide +kernel)⟩

/-- A budget that the held draw just fits, and one that it does not. -/
theorem witness_release :
    [100, 99, 59, 19].map (fun b => allSlots.filter (holding b).released) =
      [[], [5], [2, 5], [0, 2, 5]] ∧
      ((holding 100).heldFits ∧ (holding 100).hasRoom .service ∧ (holding 100).closedShort 0 = true ∧
        ((holding 100).slot 0).present = true ∧ ((holding 100).slot 0).node = .front ∧
        ((holding 100).elem 0).state = .inService) ∧
      due (holding 99).pa.allocTimer 100000 = true := by
  unfold State.heldFits State.hasRoom
  decide +kernel

/-- Held, free and waiting contactors, a queued one and short grants. -/
theorem witness_staging :
    due mixed.pa.allocTimer mixed.now = true ∧ mixed.slotsRight ∧ mixed.queueRight ∧
      mixed.queueHasRoom ∧ mixed.closedShort 0 = true ∧ mixed.waits 6 = true ∧
      (mixed.elem 23).state ≠ .inService := by
  unfold State.slotsRight State.queueRight State.queueHasRoom
  decide +kernel

/-- A counter of ENERGY at its last value, freezing on overflow, with its threshold at the accounted draw of
0. -/
def energyCounter : State :=
  { at_ 1000 State.reset with ac := updV State.reset.ac 0 fun k =>
      { k with value := 4294967295
               setup := { k.setup with enable := true, freezeOnOverflow := true } } }

theorem witness_energy :
    energyCounter.linksSettled ∧ due energyCounter.pa.drawTimer energyCounter.now = true ∧
      (let k := energyCounter.ac[0]
       k.setup.event = .energy ∧ k.setup.enable = true ∧ k.frozen = false ∧
         k.setup.threshold ≤ energyCounter.accountedDraw ∧ 2 ^ 32 ≤ k.value + 1) ∧
      due (at_ 999 State.reset).pa.drawTimer 999 = false ∧ (at_ 999 State.reset).linksSettled :=
  ⟨settled_of (by decide +kernel), by decide +kernel, by decide +kernel, by decide +kernel,
    settled_of (by decide +kernel)⟩

/-! Configuration. -/

/-- Kp at 255 and 256, the latter clamped; a node change that gives slot 0 the output of another slot; an
Mon at its Moff and one above it; fixed group 0; number 5, index 24. -/
theorem witness_set_config :
    State.reset.hasRoom .service ∧ State.reset.linksSettled ∧
      (Item.ofCodes? (0x16 : Byte).toNat (0x00 : Byte).toNat = some .kp ∧
        Acceptable State.reset.cfg .kp 255 ∧ Acceptable State.reset.cfg .kp 256 ∧
        Item.kp.fixedGroup = false ∧ (0x16 : Byte).toNat ∈ [16, 20, 21, 22]) ∧
      Item.ofCodes? (0x05 : Byte).toNat 0 = none ∧ Item.ofCodes? (0x0A : Byte).toNat 24 = none ∧
      (Item.ofCodes? (0x0B : Byte).toNat (0x00 : Byte).toNat = some (.node 0) ∧
        ¬ Acceptable State.reset.cfg (.node 0) 1) ∧
      (Item.ofCodes? (0x29 : Byte).toNat 0 = some .mOn ∧ Acceptable State.reset.cfg .mOn 60 ∧
        ¬ Acceptable State.reset.cfg .mOn 61) ∧
      (Item.ofCodes? (0x64 : Byte).toNat (0x03 : Byte).toNat = some (.group 3) ∧
        Acceptable State.reset.cfg (.group 3) 1 ∧ (Item.group 3).fixedGroup = true) := by
  refine ⟨reset_room _, reset_settled, ⟨rfl, trivial, trivial, rfl, by decide⟩, by decide, by decide,
    ⟨rfl, ?_⟩, ⟨rfl, ?_, ?_⟩, rfl, ⟨by decide, by decide⟩, by decide⟩
  · rintro ⟨-, h⟩
    exact (h.2.1 0 8 (by decide) (by decide +kernel) (by decide +kernel)).2 (by decide +kernel)
      (by decide +kernel)
  · exact ⟨by decide +kernel, by decide +kernel⟩
  · rintro ⟨h, -⟩
    exact absurd h (by decide +kernel)

/-- The values that R187 has refused, one past the codes of each item. -/
theorem witness_refused_values :
    (Item.ofCodes? 15 0 = some (.rating 0) ∧
      ((0x00#8 ++ 0x00#8 ++ 0x00#8 ++ 0x00#8).toInt = 0 ∧ (State.reset.slot 0).kind = .contactor)) ∧
    (Item.ofCodes? 16 23 = some (.phase 23) ∧
      63 < (0x00#8 ++ 0x00#8 ++ 0x00#8 ++ 0x40#8).toInt ∧
      (0xFF#8 ++ 0xFF#8 ++ 0xFF#8 ++ 0xFF#8).toInt < 0) ∧
    Item.ofCodes? 100 7 = some (.group 7) ∧
    (Item.ofCodes? 62 4 = some (.width 4) ∧ 3 < (0x00#8 ++ 0x00#8 ++ 0x00#8 ++ 0x04#8).toInt) ∧
    (Item.ofCodes? 20 0 = some .regPeriod ∧
      ((0x00#8 ++ 0x00#8 ++ 0x00#8 ++ 0x03#8).toInt ≠ 1 ∧
        (0x00#8 ++ 0x00#8 ++ 0x00#8 ++ 0x03#8).toInt ≠ 2 ∧
        (0x00#8 ++ 0x00#8 ++ 0x00#8 ++ 0x03#8).toInt ≠ 4)) ∧
    [Item.ofCodes? 10 0, Item.ofCodes? 11 0, Item.ofCodes? 14 0, Item.ofCodes? 60 5,
        Item.ofCodes? 61 5] =
      [some (.presence 0), some (.node 0), some (.kind 0), some (.enable 5), some (.polarity 5)] ∧
    ((0x00#8 ++ 0x00#8 ++ 0x00#8 ++ 0x02#8).toInt ≠ 0 ∧
      (0x00#8 ++ 0x00#8 ++ 0x00#8 ++ 0x02#8).toInt ≠ 1) ∧
    (Item.ofCodes? 13 0 = some (.owner 0) ∧
      ∀ b : Byte, b ∈ [0x06#8, 0x0A#8, 0x0F#8, 0x15#8] →
        let v := (0x00#8 ++ 0x00#8 ++ 0x00#8 ++ b).toInt
        ¬ ((0 ≤ v ∧ v ≤ 5) ∨ (11 ≤ v ∧ v ≤ 14) ∨ v = 20)) := by decide +kernel

/-- The map stays as R5 asks: the rating of slot 20, which the screen owns, at both ends of its range and as
it stands; slot 16, a curtain's, made ABSENT; the output of slot 0, a contactor, moved to 15; and the rating
of slot 23, which is ABSENT. -/
theorem witness_element_change :
    State.reset.hasRoom .service ∧
      (Acceptable State.reset.cfg (.rating 20) 1 ∧ Acceptable State.reset.cfg (.rating 20) 60 ∧
        State.reset.cfg.get (.rating 20) = 30 ∧ (State.reset.slot 20).present = true ∧
        (State.reset.slot 20).owner = .screen) ∧
      (Acceptable State.reset.cfg (.presence 16) 0 ∧ State.reset.cfg.get (.presence 16) = 1 ∧
        (State.reset.slot 16).owner = .curtain 0) ∧
      (Acceptable State.reset.cfg (.output 0) 15 ∧ State.reset.cfg.get (.output 0) = 0 ∧
        (State.reset.slot 0).kind = .contactor) ∧
      (Acceptable State.reset.cfg (.rating 23) 5 ∧ (State.reset.slot 23).present = false) ∧
      Item.ofCodes? 15 20 = some (.rating 20) ∧ Item.ofCodes? 10 16 = some (.presence 16) ∧
      Item.ofCodes? 12 0 = some (.output 0) ∧ Item.ofCodes? 15 23 = some (.rating 23) := by
  refine ⟨reset_room _, ⟨⟨by decide +kernel, ?_⟩, ⟨by decide +kernel, ?_⟩, by decide +kernel⟩,
    ⟨⟨by decide, ?_⟩, by decide +kernel⟩, ⟨⟨by decide, by decide, ?_⟩, by decide +kernel⟩,
    ⟨⟨by decide +kernel, ?_⟩, by decide +kernel⟩, rfl, rfl, rfl, rfl⟩ <;>
      exact ⟨by decide +kernel, by decide +kernel, by decide +kernel⟩

/-- DR1 without a filter, disabled where `off` is set, its door CLOSED and its filtered level inactive. -/
def unfiltered (off : Bool) : State :=
  let s : State := { State.reset with cs := { State.reset.cs with
    work := { factory with inputs := updV factory.inputs 0 fun x =>
      { x with width := 0, enable := !off } } } }
  s.modInput 0 fun r => { r with raw := .high, filtered := .active }

/-- A door input has stood at a level since 0, unsettled. -/
def doorInput (i : Fin 5) (l : PinLevel) (now : Nat) : State :=
  (at_ now State.reset).modInput (doorInputNo i) fun _ =>
    { raw := l, stableSince := 0, filtered := .unsettled }

/-- DR1 enabled with a filter and without one, and disabled without one; REL and LINE enabled and not; a
polarity under which DR1 without a filter settles; a width of 10 ms that has run for DR1 and one of 160 ms
that has not. -/
theorem witness_input_settings :
    (State.reset.hasRoom .service ∧ State.reset.doorsRight ∧
      (∀ i : InputNo, (State.reset.cfg.inputs[i]).enable = true) ∧
      0 < State.reset.cfg.dropFilter ∧ 0 < State.reset.cfg.restoreFilter ∧
      (State.reset.input relInput).filtered ≠ .inactive) ∧
    ((unfiltered true).hasRoom .service ∧ (unfiltered true).doorsRight ∧
      ((unfiltered true).cfg.inputs[(0 : InputNo)]).enable = false ∧
      ((unfiltered true).cfg.inputs[(0 : InputNo)]).width = 0) ∧
    ((unfiltered false).hasRoom .service ∧ (unfiltered false).doorsRight ∧
      ((unfiltered false).cfg.inputs[(0 : InputNo)]).width = 0 ∧
      ((unfiltered false).input 0).filtered ≠
        (after [.setConfig .service 0 [61, 0, 0, 0, 0, 1]] (unfiltered false)).sense 0) ∧
    ((doorInput 0 .low 39).hasRoom .service ∧ (doorInput 0 .low 39).doorsRight ∧
      ((doorInput 0 .low 39).cfg.inputs[doorInputNo 0]).width ≠ (0x01 : Byte).toNat ∧
      ((doorInput 0 .low 39).cfg.inputs[doorInputNo 0]).width ≠ (0x03 : Byte).toNat ∧
      (0x03 : Byte).toNat < 4 ∧
      ((doorInput 0 .low 39).input 0).stableSince + 10 ≤ (doorInput 0 .low 39).now ∧
      ¬ ((doorInput 0 .low 39).input 0).stableSince + 160 ≤ (doorInput 0 .low 39).now) := by
  unfold State.doorsRight State.hasRoom
  decide +kernel

/-- A CLOSED door out of use moves no blower; an OPEN one brings the blowers of its zones to their base level
(log 49). -/
theorem test_closed_out_of_use :
    let s := State.reset.modZone 1 fun r => { r with blower := 3 }
    let off := Instr.setConfig .service 0 [60, 0, 0, 0, 0, 0]
    ((after [off] s).zone 1).blower = 3 ∧
      ((after [off] (s.modDoor 0 fun r => { r with state := .open, openStart := some 0 })).zone
        1).blower = 0 := by decide +kernel

/-- The items of the cabin with the first and the last index of each; every value of theirs is accepted. -/
theorem witness_cabin_items :
    State.reset.hasRoom .service ∧
    ([(1, 0), (2, 0), (3, 0), (4, 0), (4, 23), (26, 0), (30, 0), (44, 0), (45, 0), (46, 0), (63, 1),
        (63, 4), (64, 0), (66, 0), (67, 0)].map fun x => Item.ofCodes? x.1 x.2) =
      [Item.sensorHold, .sensorDegrade, .fallbackOutside, .weight 0 0, .weight 3 5, .imax,
        .demistFloor, .filmShare, .qDemist, .qDefrost, .bd 0, .bd 3, .heldLimit,
        .curtainThreshold, .heldShare].map some ∧
    (∀ c asked, Acceptable c .sensorHold asked ∧ Acceptable c .fallbackOutside asked ∧
      Acceptable c (.weight 0 0) asked ∧ Acceptable c .imax asked ∧
      Acceptable c .demistFloor asked ∧ Acceptable c .filmShare asked ∧
      Acceptable c (.bd 0) asked ∧ Acceptable c .heldLimit asked ∧
      Acceptable c .curtainThreshold asked) :=
  ⟨reset_room _, by decide, fun _ _ => ⟨trivial, trivial, trivial, trivial, trivial, trivial, trivial,
    trivial, trivial⟩⟩

/-- The items of the line, the power account and the links with their indexes; every value of theirs is
accepted. A gap of 2 s and one of 1 ms less; LAPSED; links silent for 200 ms and for one ms less, UP and
not. -/
theorem witness_power_items :
    State.reset.hasRoom .service ∧
    ([(70, 0), (71, 0), (72, 0), (73, 0), (75, 0), (75, 3), (93, 0)].map fun x =>
        Item.ofCodes? x.1 x.2) =
      [Item.dropFilter, .restoreFilter, .dewireThreshold, .fallbackEnvelope, .quota 0, .quota 3,
        .nodeSilence].map some ∧
    (∀ c asked, Acceptable c .dropFilter asked ∧ Acceptable c .dewireThreshold asked ∧
      Acceptable c .fallbackEnvelope asked ∧ Acceptable c (.quota 0) asked ∧
      Acceptable c .nodeSilence asked) ∧
    (let s : State := { gapped with pa := { gapped.pa with line := .gap, gapStart := some 0 } }
     s.pa.line = .gap ∧ due (s.pa.gapStart.map (· + 2 * 1000)) 2000 = true ∧
       due (s.pa.gapStart.map (· + 2 * 1000)) 1999 = false) ∧
    (let t := after [.envelopeHoldExpiry] (at_ 1000 State.reset)
     t.pa.envState = .lapsed ∧ t.hasRoom .service) ∧
    (let s := State.reset.modLink .front fun k =>
       { k with state := .up, lastValid := some 0, silenceTimer := some 500 }
     (s.link .front).state = .up ∧ due ((s.link .front).lastValid.map (· + 200)) 200 = true ∧
       due ((s.link .front).lastValid.map (· + 200)) 199 = false ∧ (s.link .rear).state ≠ .up ∧
       (s.slot 0).present = true ∧ (s.slot 0).node = .front ∧ (s.elem 0).state = .inService) :=
  ⟨reset_room _, by decide, fun _ _ => ⟨trivial, trivial, trivial, trivial, trivial⟩, by decide +kernel,
    ⟨by decide +kernel, room_of (by decide +kernel)⟩, by decide +kernel⟩

/-- A store in progress. -/
def storing : State :=
  { State.reset with cs := { State.reset.cs with storeState := .storing, snapshot := some factory } }

theorem witness_store :
    (State.reset.linksSettled ∧ State.reset.hasRoom .service ∧ State.reset.cs.storeState = .idle) ∧
      storing.linksSettled ∧ storing.hasRoom .service ∧ storing.cs.storeState = .storing ∧
      storing.cs.snapshot = some factory :=
  ⟨⟨reset_settled, reset_room _, rfl⟩, settled_of (by decide +kernel), room_of (by decide +kernel),
    rfl, rfl⟩

theorem witness_restore_defaults :
    State.reset.hasRoom .service ∧ State.reset.cfg = factory ∧ State.reset.linksSettled :=
  ⟨reset_room _, rfl, reset_settled⟩

/-- Imax alone differs from its default, by 1, with one contactor in the closure queue. -/
theorem witness_restore_one :
    let s : State := { State.reset.setQueue [0] with
      cs := { State.reset.cs with work := factory.put .imax 59 } }
    s.hasRoom .service ∧ s.cfg.put .imax (factory.get .imax) = factory ∧
      s.cfg.get .imax ≠ factory.get .imax ∧ (0#8 ++ 0#8 ++ 0#8 ++ 60#8).toInt = factory.get .imax ∧
      Item.ofCodes? (0x1A : Byte).toNat (0x00 : Byte).toNat = some .imax ∧
      Acceptable s.cfg .imax 60 ∧ Item.imax.fixedGroup = false ∧ (s.queueRight ∧ s.slotsRight) ∧
      s.es.queue ≠ [] :=
  ⟨room_of (by decide +kernel), by decide +kernel, by decide +kernel, by decide +kernel, rfl, trivial, rfl,
    by unfold State.queueRight State.slotsRight; decide +kernel, by decide⟩

/-! Counters. -/

theorem witness_counter_setup :
    State.reset.hasRoom .service ∧ State.reset.linksSettled ∧
      ((0x07 : Byte).toNat = (7 : Fin 8).val ∧
        CountedEvent.ofCode? (0x0E : Byte).toNat = some .contactorClose ∧
        CountMode.ofCode? (0x02 : Byte).toNat = some .edge ∧ (0x03 : Byte).toNat < 4) ∧
      8 ≤ (0x08 : Byte).toNat ∧ 15 ≤ (0x0F : Byte).toNat ∧ 3 ≤ (0x03 : Byte).toNat ∧
      4 ≤ (0x04 : Byte).toNat :=
  ⟨reset_room _, reset_settled, by decide, by decide, by decide, by decide, by decide⟩

/-- A counter has overflowed under freeze-on-overflow. -/
def overflowed : State :=
  { State.reset with ac := updV State.reset.ac 3 fun k =>
      { k with overflow := true, setup := { k.setup with freezeOnOverflow := true } } }

theorem witness_counter_control :
    State.reset.hasRoom .service ∧ State.reset.linksSettled ∧
      (¬ ∃ i : Fin 8, (State.reset.ac[i]).overflow = true ∧
        (State.reset.ac[i]).setup.freezeOnOverflow = true) ∧
      (overflowed.hasRoom .service ∧ overflowed.linksSettled ∧ (0x01 : Byte) ≠ 0 ∧
        ∃ i : Fin 8, (overflowed.ac[i]).overflow = true ∧
          (overflowed.ac[i]).setup.freezeOnOverflow = true) ∧
      4 < (0x05 : Byte).toNat :=
  ⟨reset_room _, reset_settled, by decide +kernel,
    ⟨room_of (by decide +kernel), settled_of (by decide +kernel), by decide, 3, by decide +kernel⟩,
    by decide⟩

/-! Elements. -/

/-- Slot 23 is locked out by overheat until 300000. -/
def lockedOut (now : Nat) : State :=
  (at_ now State.reset).modElem 23 fun e =>
    { e with state := .lockedOut, lockout := some .overheat, lockoutTimer := some 300000 }

theorem witness_lockout :
    ((lockedOut 300000).elem 23).state = .lockedOut ∧ (lockedOut 300000).hasRoom .service ∧
      due ((lockedOut 300000).elem 23).lockoutTimer 300000 = true ∧
      due ((lockedOut 299999).elem 23).lockoutTimer 299999 = false ∧
      (lockedOut 299999).linksSettled ∧ (lockedOut 299999).hasRoom .service ∧
      ((lockedOut 299999).elem 22).state ≠ .lockedOut ∧ 24 ≤ (0x18 : Byte).toNat :=
  ⟨by decide +kernel, room_of (by decide +kernel), by decide +kernel, by decide +kernel,
    settled_of (by decide +kernel), room_of (by decide +kernel), by decide +kernel, by decide⟩

/-- A boundary at 25 that closes slot 0, at the wrap of the slot counter. -/
theorem witness_boundary :
    let s := at_ 25 (busy.setQueue [0, 2])
    let t : State := { s with es := { s.es with slotCounter := 63 } }
    due t.es.slotTimer t.now = true ∧ t.es.queue.head? = some 0 ∧
      due (at_ 25 busy).es.slotTimer 25 = true ∧ (at_ 25 busy).es.queue = [] ∧
      due (at_ 24 busy).es.slotTimer 24 = false ∧ (at_ 24 busy).linksSettled :=
  ⟨by decide +kernel, rfl, by decide +kernel, by decide +kernel, by decide +kernel,
    settled_of (by decide +kernel)⟩

/-! Ports. -/

/-- The desk's port in the middle of a frame. -/
def receiving (frame : List Byte) (now : Nat) : State :=
  (at_ now State.reset).modPort .desk fun c =>
    { c with receiver := .receiving, frame := frame, lastChar := 0, link := .linked,
             linkTimer := some 2000 }

theorem witness_port_events :
    (∀ now, (receiving [0xA5] now).linksSettled) ∧
      due ((receiving [0xA5] 2000).port .desk).linkTimer 2000 = true ∧
      due ((receiving [0xA5] 1999).port .desk).linkTimer 1999 = false ∧
      (((receiving [0xA5] 5).port .desk).receiver = .receiving ∧
        ((receiving [0xA5] 5).port .desk).lastChar + 5 ≤ (receiving [0xA5] 5).now) ∧
      ¬ (((receiving [0xA5] 4).port .desk).receiver = .receiving ∧
        ((receiving [0xA5] 4).port .desk).lastChar + 5 ≤ (receiving [0xA5] 4).now) :=
  ⟨fun now n hn => by
      have h : ∀ n, (State.reset.link n).pendingMarker = true → False := by
        intro n; cases n <;> decide +kernel
      exact absurd (show (State.reset.link n).pendingMarker = true by cases n <;> exact hn) (h n),
    by decide +kernel, by decide +kernel, by decide +kernel, by decide +kernel⟩

theorem witness_characters :
    (State.reset.linksSettled ∧ (State.reset.port .desk).receiver = .hunt) ∧
      ((receiving [0xA5] 1).linksSettled ∧ ((receiving [0xA5] 1).port .desk).receiver = .receiving ∧
        ((receiving [0xA5] 1).port .desk).frame = [0xA5] ∧ (0x80 : Byte).toNat ≤ 128 ∧
        128 < (0x81 : Byte).toNat) ∧
      ([0x02, 0x55, 0x12] : List Byte).length < (0x01 : Byte).toNat + 3 ∧
      ([0x02, 0x55, 0x12, 0x00] : List Byte) = [0x02, 0x55, 0x12] ++ [0x00] ∧
      ([0x02, 0x55, 0x12] : List Byte).length = (0x01 : Byte).toNat + 2 ∧
      cyclicCheck ((0x01 : Byte) :: [0x02, 0x55, 0x12]) ≠ (0x00 : Byte) ++ (0x00 : Byte) :=
  ⟨⟨reset_settled, rfl⟩, ⟨settled_of (by decide +kernel), rfl, rfl, by decide, by decide⟩, by decide,
    rfl, by decide, by decide +kernel⟩

/-- A READ-NOTICES frame without its last character. -/
theorem witness_last_character :
    let frame := (frameBytes 0x02 0x55 []).take 5
    let s := receiving frame 1
    requestOf (.readNotices .desk 0x55 []) = some (.desk, 0x02, 0x55, []) ∧
      ([] : List Byte).length ≤ 128 ∧ (s.port .desk).receiver = .receiving ∧
      (s.port .desk).frame ++ [(frameBytes 0x02 0x55 []).getD 5 0] = frameBytes 0x02 0x55 [] :=
  ⟨rfl, by decide, rfl, by decide +kernel⟩

/-! Node links. -/

/-- The front window after reset holds order 0 alone. -/
def order0 : OrderEntry :=
  { number := 0, sentAt := 0, timeout := 50, levels := State.resetLevels .front }

/-- An echo in which output 4 is applied at 50 and no output is hot. -/
def offEcho : List Byte :=
  ((echoBody 0).set 11 0xB2).set 12 0x20

/-- An echo of order 0 finds it; order 7 is in no window; output 0 belongs to slot 0, hot and in service;
slot 4 carried duty 0 in order 0 and is echoed with 50, its third mismatch in a row; slot 8 lies on the
other node. -/
theorem witness_echo :
    (State.reset.link .front).window = [] ++ order0 :: [] ∧
      order0.number.val = (0x00 : Byte).toNat ∧
      (∀ e ∈ (State.reset.link .front).window, e.number.val ≠ (0x07 : Byte).toNat) ∧
      ((State.reset.slot 0).present = true ∧ (State.reset.slot 0).node = .front ∧
        (State.reset.slot 0).output < 16 ∧ (State.reset.elem 0).state = .inService ∧
        ((echoBody 0x0001).getD 1 0 ++ (echoBody 0x0001).getD 2 0).getLsbD
          (State.reset.slot 0).output = true) ∧
      ((echoBody 0).length = 35 ∧ offEcho.length = 35 ∧
        (offEcho.getD 0 0 != 0) = false ∧ (State.reset.slot 4).present = true ∧
        (State.reset.slot 4).node = .front ∧ (State.reset.elem 4).state = .inService ∧
        (offEcho.getD 1 0 ++ offEcho.getD 2 0).getLsbD (State.reset.slot 4).output = false ∧
        order0.levels.filter (fun l => l.slot == 4) = [{ slot := 4, level := 0, phase := 32 }] ∧
        (offEcho.getD (3 + 2 * (State.reset.slot 4).output) 0 &&& 0x7F#8).toNat ≠ 0 ∧
        3 ≤ ((State.reset.modElem 4 fun e => { e with mismatch := 2 }).elem 4).mismatch + 1) ∧
      ¬ ((State.reset.slot 8).present = true ∧ (State.reset.slot 8).node = .front) :=
  ⟨by decide +kernel, rfl, by decide +kernel, by decide +kernel, by decide +kernel,
    by decide +kernel⟩

/-- The front link with a run of valid frames; slot 0, a contactor, is OFFLINE and closed, slot 1
LOCKED-OUT, and the demands are clamped so. -/
def returning (st : LinkState) (run : Nat) : State :=
  State.clampAll <| (((at_ 900 State.reset).modLink .front fun k =>
    { k with state := st, validRun := run, lostTime := some 400, heldDraw := 30
             heldTimer := some 3400 }).modElem 0 fun e =>
    { e with state := .offline, mismatch := 2, openedSince := some 0 }).modElem 1 fun e =>
    { e with state := .lockedOut, lockout := some .overheat }

/-- The third frame in a row of a LOST and of a DOWN link, a sample frame or an echo; slot 0 is hot in the
second echo and not in the first, which matches order 0. -/
theorem witness_third_frame :
    (2 ≤ ((returning .lost 2).link .front).validRun ∧ 2 ≤ ((returning .down 3).link .front).validRun ∧
      ((returning .lost 2).link .front).state = .lost ∧
      ((returning .down 3).link .front).state = .down ∧ (bytes 11).length = 11 ∧
      (echoBody 0).length = 35 ∧
      ((returning .lost 2).slot 0).present = true ∧ ((returning .lost 2).slot 0).node = .front ∧
      ((returning .lost 2).slot 0).kind = .contactor ∧
      ((returning .lost 2).elem 0).state = .offline ∧
      ((returning .lost 2).slot 1).present = true ∧ ((returning .lost 2).slot 1).node = .front ∧
      ((returning .lost 2).elem 1).state = .lockedOut ∧
      ((echoBody 0).getD 1 0 ++ (echoBody 0).getD 2 0).getLsbD 0 = false ∧
      ((echoBody 1).getD 1 0 ++ (echoBody 1).getD 2 0).getLsbD 0 = true ∧
      ∃ e ∈ ((returning .lost 2).link .front).window, e.number.val = (0x00 : Byte).toNat) ∧
    (((returning .lost 2).link .front).slotsDistinct ∧
      ((returning .down 3).link .front).slotsDistinct) ∧
    ((returning .lost 2).airEntriesRight ∧ (returning .down 3).airEntriesRight) ∧
    AllClamped (returning .lost 2) ∧ AllClamped (returning .down 3) := by
  refine ⟨by decide +kernel, by unfold LinkCtx.slotsDistinct; decide +kernel, ⟨fun e x hx => ?_, fun e x hx => ?_⟩,
    clamps_of (by decide +kernel) (by decide +kernel) (by decide +kernel), clamps_of ?_ ?_ ?_⟩
  · simpa using entries_of (s := returning .lost 2) (f := fun _ _ => false) (by decide +kernel) e x hx
  · simpa using entries_of (s := returning .down 3) (f := fun _ _ => false) (by decide +kernel) e x hx
  all_goals decide +kernel

/-- A returned contactor is in service and open since the loss (R147); the frame has no outside value. -/
theorem test_relink :
    let t := after [.sampleFrame .front (bytes 6 ++ [0x80, 0x00] ++ bytes 3)] (returning .lost 2)
    ((t.elem 0).state, (t.elem 0).openedSince, (t.elem 1).state, (t.link .front).heldDraw) =
      (.inService, some 400, .lockedOut, 0) := by decide +kernel

/-- Seven frame errors in the last 999 ms, and an eighth before them that has left the window. -/
theorem witness_frame_errors :
    let s := (at_ 1000 State.reset).modLink .front fun k =>
      { k with errorWindow := [0, 1, 2, 3, 4, 5, 6, 7] }
    s.linksSettled ∧
      8 ≤ ((s.link .front).errorWindow.filter (fun m => decide (s.now < m + 1000)) ++
        [s.now]).length :=
  ⟨settled_of (by decide +kernel), by decide +kernel⟩

/-- What a frame's characters say: came in full, with the check of its fields. -/
def fullFrame (frame : LinkFrame) : Bool :=
  frame.tail.all (fun c => decide (c.2 ≤ 5)) &&
    (frame.map Prod.fst).length == ((frame.map Prod.fst).getD 1 0).toNat + 6

/-- A gap of 6 ms; a good SAMPLE with a gap of 5 ms; the check off by one; the kinds 40h and 43h; lengths
next to 35 and 11. -/
theorem witness_judged_frames :
    (fullFrame (framed 0x42 (bytes 11) 6) = false ∧ fullFrame (framed 0x42 (bytes 11) 5) = true) ∧
    (let fields : List Byte := 11 :: 0x42 :: 0 :: bytes 11
     (framed 0x42 (bytes 11) 5).map Prod.fst =
         0xA5 :: 11 :: 0x42 :: 0 :: (bytes 11 ++
           [(cyclicCheck fields).extractLsb' 8 8, (cyclicCheck fields).extractLsb' 0 8]) ∧
       (cyclicCheck fields).extractLsb' 8 8 ++ (cyclicCheck fields).extractLsb' 0 8 =
         cyclicCheck fields ∧
       (cyclicCheck fields).extractLsb' 8 8 ++ ((cyclicCheck fields).extractLsb' 0 8 + 1#8) ≠
         cyclicCheck fields) ∧
    ([framed 0x40 (bytes 39) 0, framed 0x43 (bytes 11) 0, framed 0x41 (bytes 34) 0,
      framed 0x41 (bytes 35) 0, framed 0x41 (bytes 36) 0, framed 0x42 (bytes 10) 0,
      framed 0x42 (bytes 12) 0].all fullFrame) = true ∧
    (bytes 34).length ≠ 35 ∧ (bytes 12).length ≠ 11 ∧ State.reset.linksSettled :=
  ⟨by decide +kernel, by decide +kernel, by decide +kernel, by decide, by decide, reset_settled⟩

/-- The front link with a number of orders outstanding. -/
def linkWith (window : List OrderEntry) (marker : Bool) (spacing : Timer) (now : Nat) : State :=
  (at_ now State.reset).modLink .front fun k =>
    { k with window := window, pendingMarker := marker, spacingTimer := spacing, heldDraw := 86,
             heldTimer := some 3000 }

theorem witness_order_timers :
    (let s := linkWith [order0] false none 100
     s.linksSettled ∧ due (s.link .front).orderTimer s.now = true ∧
       (s.link .front).window.length < s.cfg.windowSize ∧ (s.link .front).spacingTimer = none) ∧
    (let s := linkWith [order0, order0] false (some 20) 100
     s.linksSettled ∧ ¬ (s.link .front).window.length < s.cfg.windowSize) ∧
    (let s := linkWith [order0] false none 99
     s.linksSettled ∧ due (s.link .front).orderTimer s.now = false) ∧
    (let s := linkWith [order0] true (some 20) 20
     s.linksSettled ∧ due (s.link .front).spacingTimer s.now = true ∧
       (s.link .front).pendingMarker = true ∧
       (s.link .front).window.length < s.cfg.windowSize) ∧
    (let s := linkWith [order0] false (some 20) 20
     s.linksSettled ∧ due (s.link .front).spacingTimer s.now = true ∧
       (s.link .front).pendingMarker = false) ∧
    (let s := linkWith [order0] true (some 20) 19
     s.linksSettled ∧ due (s.link .front).spacingTimer s.now = false) ∧
    due ((linkWith [] false none 3000).link .front).heldTimer 3000 = true ∧
      due ((linkWith [] false none 2999).link .front).heldTimer 2999 = false := by
  refine ⟨settled_and ?_, settled_and ?_, settled_and ?_, settled_and ?_, settled_and ?_, settled_and ?_,
    ?_, ?_⟩ <;> decide +kernel

/-- Slot 2 alone holds output 2 of the front node, and no slot holds output 15. -/
theorem witness_order_outputs :
    ((State.reset.slot 2).present = true ∧ (State.reset.slot 2).node = .front ∧
      (State.reset.slot 2).output < 16 ∧
      ∀ j : SlotNo, (State.reset.slot j).present = true → (State.reset.slot j).node = .front →
        (State.reset.slot j).output = (State.reset.slot 2).output → j = 2) ∧
    ∀ j : SlotNo, (State.reset.slot j).present = true → (State.reset.slot j).node = .front →
      (State.reset.slot j).output ≠ 15 := by decide +kernel

/-- The front link UP with a run of misses, order 0 outstanding until 50. -/
def missing (miss now : Nat) (st : LinkState) : State :=
  (at_ now State.reset).modLink .front fun k =>
    { k with state := st, echoMiss := miss, silenceTimer := some 500 }

theorem witness_echo_timeout :
    (let s := missing 3 50 .up
     (∃ e ∈ (s.link .front).window, e.number = 0 ∧ e.timeout ≤ s.now) ∧
       min 255 ((s.link .front).echoMiss + 1) < 5) ∧
    (let s := missing 4 50 .up
     (∃ e ∈ (s.link .front).window, e.number = 0 ∧ e.timeout ≤ s.now) ∧
       (s.link .front).state = .up ∧ 5 ≤ min 255 ((s.link .front).echoMiss + 1)) ∧
    (let s := missing 4 49 .up
     (¬ ∃ e ∈ (s.link .front).window, e.number = 0 ∧ e.timeout ≤ s.now) ∧ s.linksSettled) :=
  ⟨⟨⟨order0, by decide +kernel⟩, by decide +kernel⟩, ⟨⟨order0, by decide +kernel⟩, by decide +kernel⟩,
    by decide +kernel, settled_of (by decide +kernel)⟩

theorem witness_silence :
    (due ((missing 0 500 .up).link .front).silenceTimer 500 = true ∧
      ((missing 0 500 .up).link .front).state = .up ∧
      ((missing 0 500 .up).slot 2).present = true ∧ ((missing 0 500 .up).slot 2).node = .front ∧
      ((missing 0 500 .up).elem 2).state = .inService) ∧
    (due ((missing 0 500 .lost).link .front).silenceTimer 500 = true ∧
      ((missing 0 500 .lost).link .front).state ≠ .up ∧ (missing 0 500 .lost).linksSettled) ∧
    due ((missing 0 499 .up).link .front).silenceTimer 499 = false ∧
      (missing 0 499 .up).linksSettled :=
  ⟨by decide +kernel, ⟨by decide +kernel, by decide +kernel, settled_of (by decide +kernel)⟩,
    by decide +kernel, settled_of (by decide +kernel)⟩

/-! Samples, zones and the screen. -/

/-- The glass temperature was last valid at 0. -/
def glassAt (q : Quality) (now : Nat) : State :=
  (at_ now State.reset).modValue .glass fun r =>
    { r with value := some 120, lastValid := some 0, quality := q }

theorem witness_ageing :
    (let s := glassAt .fresh 10000
     let r := s.value .glass
     r.quality = .fresh ∧ (r.lastValid = some 0 ∧ 0 + s.cfg.sensorHold * 1000 ≤ s.now) ∧
       s.cfg.sensorHold < s.cfg.sensorDegrade) ∧
    (let s := glassAt .stale 60000
     let r := s.value .glass
     (r.quality ≠ .missing ∧ r.lastValid = some 0 ∧ 0 + s.cfg.sensorDegrade * 1000 ≤ s.now) ∧
       s.sc.state ≠ .defrost) ∧
    (let s := glassAt .fresh 9999
     s.linksSettled ∧
       ¬ ∃ m, (s.value .glass).lastValid = some m ∧ m + s.cfg.sensorHold * 1000 ≤ s.now) ∧
    (let s := glassAt .stale 59999
     s.linksSettled ∧
       ¬ ∃ m, (s.value .glass).lastValid = some m ∧ m + s.cfg.sensorDegrade * 1000 ≤ s.now) := by
  refine ⟨by decide +kernel, by decide +kernel, ⟨settled_of (by decide +kernel), ?_⟩,
    settled_of (by decide +kernel), ?_⟩
  · rintro ⟨m, hm, h⟩
    have : ((glassAt .fresh 9999).value .glass).lastValid = some 0 := rfl
    rw [this, Option.some.injEq] at hm
    subst hm
    exact absurd h (by decide +kernel)
  · rintro ⟨m, hm, h⟩
    have : ((glassAt .stale 59999).value .glass).lastValid = some 0 := rfl
    rw [this, Option.some.injEq] at hm
    subst hm
    exact absurd h (by decide +kernel)

/-- The pass of section 2.9: FRONT-2 has a temperature and its modulated element and no ZONE-OFF; CAB has no
temperature; a locked-out modulated element and a ZONE-OFF make the other cases. -/
theorem witness_regulation :
    (due front2.zr.passTimer front2.now = true ∧ front2.zoneOff 2 = false ∧
      (front2.value (.air 2)).value = some 148 ∧ (front2.modulated 2).isSome = true ∧
      (front2.value (.air 0)).value = none) ∧
    ((front2.modElem 7 fun e => { e with state := .lockedOut }).modulated 2).isSome = false ∧
    (withEntries [entryOf .zoneOff (.zone 2) .desk none 0] front2).zoneOff 2 = true ∧
    (let s := front2.modZone 3 fun r => { r with reasons := { r.reasons with missing := false } }
     (s.value (.air 3)).quality = .missing ∧ (s.zone 3).reasons.missing = false) :=
  ⟨by decide +kernel, by decide +kernel, by decide +kernel, by decide +kernel⟩

/-- The screen in a state with its three timers at 30000. -/
def screenIn (st : ScreenState) (now : Nat) : State :=
  (at_ now State.reset).modScreen fun r =>
    { r with state := st, acting := none, airRequest := true, origin := .coldStart,
             exitHold := some 30000, defrostTimer := some 30000, glassHold := some 30000 }

/-- A front frame of section 3.10's values, a cab of 20.0 °C with glass and humidity as given. -/
def frontFrame (outside glass rh : Nat) : List Byte :=
  [0, 200, 0, 200, 0, 200] ++ w16 outside ++ w16 glass ++ [BitVec.ofNat 8 rh]

/-- The screen after a front frame of glass and humidity that is not the first with an outside value. -/
def screenAfter (s : State) (glass rh : Nat) : ScreenRec :=
  (after [.sampleFrame .front (frontFrame 100 glass rh)]
    { s with st := { s.st with firstOutside := true } }).sc

/-- The frames that the screen takes: the first outside value in FAILSAFE; DEMIST at a margin of Moff and
one below it; DEFROST at the glass target and one below it; the latch at the glass limit, one above it, at
50 below and one above that; FAILSAFE below Mon, at Mon and at Mwatch; and CLEAR without a humidity. -/
theorem witness_frame_screen :
    (frontFrame 0 0 0).length = 11 ∧
    (State.reset.st.firstOutside = false ∧ State.reset.sc.coldDecision = .pending ∧
      State.reset.cfg.coldStart = true ∧ State.reset.sc.state ≠ .defrost) ∧
    [200, 199].map (fun tg => (screenAfter (screenIn .demist 1000) tg 70).exitHold) =
      [some 30000, none] ∧
    [100, 99].map (fun tg => (screenAfter (screenIn .defrost 1000) tg 70).glassHold) =
      [some 30000, none] ∧
    [450, 451].map (fun tg => (screenAfter (screenIn .watch 1000) tg 70).filmLatch) =
      [false, true] ∧
    [400, 401].map (fun tg => (screenAfter ((screenIn .watch 1000).modScreen fun r =>
      { r with filmLatch := true }) tg 70).filmLatch) = [false, true] ∧
    [169, 170, 220].map (fun tg => (screenAfter (at_ 1000 State.reset) tg 70).state) =
      [.demist, .watch, .clear] ∧
    (screenAfter (screenIn .clear 1000) 170 255).state = .failsafe := by decide +kernel

/-- R65: a margin of 70 recorded at the last frame dictates WATCH at the end of the cycle, although Mwatch has
been lowered from 80 to 60 since; the next frame, of the same margin, brings CLEAR. -/
theorem test_thresholds_wait :
    let s := { screenIn .defrost 30000 with st := { State.reset.st with firstOutside := true } }
    let frame : Instr := .sampleFrame .front (frontFrame 100 210 70)
    let ended := after [frame, .setConfig .service 1 [40, 0, 0, 0, 0, 60], .defrostTimerExpiry] s
    (ended.sc.margin, ended.cfg.mWatch, ended.sc.state) = (some 70, 60, .watch) ∧
      (after [frame] ended).sc.state = .clear := by decide +kernel

theorem witness_pass_not_due :
    due (at_ 1999 State.reset).zr.passTimer 1999 = false ∧ (at_ 1999 State.reset).linksSettled :=
  ⟨by decide +kernel, settled_of (by decide +kernel)⟩

theorem witness_screen_timers :
    ((screenIn .demist 30000).sc.state = .demist ∧
      due (screenIn .demist 30000).sc.exitHold 30000 = true ∧
      (screenIn .demist 30000).sc.airRequest = true) ∧
    ((screenIn .defrost 30000).sc.state = .defrost ∧
      due (screenIn .defrost 30000).sc.defrostTimer 30000 = true ∧
      due (screenIn .defrost 30000).sc.glassHold 30000 = true ∧
      (screenIn .defrost 30000).sc.origin ≠ .placed) ∧
    (defrosting.sc.origin = .placed ∧
      ∀ e f x y, defrosting.entry e = some x → defrosting.entry f = some y → x.kind = .defrost →
        y.kind = .defrost → e = f) ∧
    (screenIn .defrost 29999).linksSettled ∧ (screenIn .defrost 29999).sc.state ≠ .demist ∧
      due (screenIn .defrost 29999).sc.defrostTimer 29999 = false ∧
      due (screenIn .defrost 29999).sc.glassHold 29999 = false ∧
      due (screenIn .demist 29999).sc.exitHold 29999 = false := by
  refine ⟨by decide +kernel, by decide +kernel, ⟨rfl, fun e f x y hx hy _ _ => ?_⟩,
    settled_of (by decide +kernel), by decide +kernel, by decide +kernel, by decide +kernel,
    by decide +kernel⟩
  have he := entries_of (f := fun e _ => e == 15) (by decide +kernel) e x hx
  have hf := entries_of (f := fun e _ => e == 15) (by decide +kernel) f y hy
  simp_all

/-! Inputs and doors. -/

theorem witness_raw_change_at_once :
    ((0 : InputNo) = doorInputNo 0 ∧ ((unfiltered false).input 0).raw ≠ .low ∧
      ((unfiltered false).cfg.inputs[(0 : InputNo)]).width = 0 ∧
      ((unfiltered false).cfg.inputs[(0 : InputNo)]).enable = true ∧
      ((unfiltered false).input 0).filtered ≠
        (if ((unfiltered false).cfg.inputs[(0 : InputNo)]).activeHigh = decide (PinLevel.low = .high)
          then .active else .inactive) ∧
      (unfiltered false).doorsRight) ∧
    (((unfiltered true).input 0).raw ≠ .low ∧
      ((unfiltered true).cfg.inputs[(0 : InputNo)]).width = 0 ∧
      ((unfiltered true).cfg.inputs[(0 : InputNo)]).enable = false ∧
      (unfiltered true).linksSettled) :=
  ⟨⟨rfl, by decide +kernel, by decide +kernel, by decide +kernel, by decide +kernel,
      by unfold State.doorsRight; decide +kernel⟩,
    by decide +kernel, by decide +kernel, by decide +kernel, settled_of (by decide +kernel)⟩

theorem witness_raw_change :
    ((State.reset.input 0).raw = .low ∧ State.reset.linksSettled) ∧
      ((State.reset.input 0).raw ≠ .high ∧ (State.reset.cfg.inputs[(0 : InputNo)]).width ≠ 0) ∧
      ((State.reset.input lineInput).raw ≠ .high ∧ 0 < State.reset.cfg.dropFilter ∧
        0 < State.reset.cfg.restoreFilter) ∧
      (let s : State := { State.reset with cs := { State.reset.cs with
        work := { factory with inputs := updV factory.inputs 4 fun x => { x with width := 0 } } } }
       (s.input 4).raw ≠ .high ∧ (4 : InputNo) ≠ lineInput ∧
         (s.cfg.inputs[(4 : InputNo)]).width = 0) :=
  ⟨⟨rfl, reset_settled⟩, by decide +kernel, by decide +kernel, by decide +kernel⟩

/-- DR1 settles open and DR1 settles closed at 40 ms, REL at 20 ms; door 1 is in use. -/
theorem witness_filtered :
    ((doorInput 0 .low 40).filterDue (doorInputNo 0) = true ∧
      (doorInput 0 .low 40).sense (doorInputNo 0) = .inactive ∧
      ((doorInput 0 .low 40).door 0).inUse = true ∧ (doorInput 0 .low 40).doorsRight) ∧
    ((doorInput 0 .high 40).filterDue (doorInputNo 0) = true ∧
      (doorInput 0 .high 40).sense (doorInputNo 0) = .active ∧ (doorInput 0 .high 40).doorsRight) ∧
    ((doorInput 4 .high 20).filterDue (doorInputNo 4) = true ∧
      (doorInput 4 .high 20).sense (doorInputNo 4) = .active ∧ (doorInput 4 .high 20).doorsRight) ∧
    (doorInput 0 .low 39).filterDue (doorInputNo 0) = false ∧
      (doorInput 0 .low 39).linksSettled :=
  ⟨by unfold State.doorsRight; decide +kernel, by unfold State.doorsRight; decide +kernel,
    by unfold State.doorsRight; decide +kernel, by decide +kernel, settled_of (by decide +kernel)⟩

/-- Door 1 in a state with its timers. -/
def doorIn (st : DoorState) (held trailing decay : Timer) (now : Nat) : State :=
  (at_ now State.reset).modDoor 0 fun r =>
    { r with state := st, openStart := some 0, heldTimer := held, trailingTimer := trailing,
             decayTimer := decay, decayTime := some 36000, vclose := some 40 }

theorem witness_door_timers :
    (let s := doorIn .open (some 90000) none none 90000
     (s.door 0).state = .open ∧ due (s.door 0).heldTimer s.now = true) ∧
    (let s := doorIn .trailing none (some 8000) (some 36000) 8000
     (s.door 0).state = .trailing ∧ due (s.door 0).trailingTimer s.now = true ∧
       (s.door 0).decayTimer ≠ none ∧ (s.door 0).curtainHeat = 0 ∧
       ((s.modDoor 0 fun r => { r with curtainHeat := 30 }).door 0).curtainHeat ≠ 0) ∧
    (let s := doorIn .trailing none (some 8000) none 8000
     (s.door 0).state = .trailing ∧ due (s.door 0).trailingTimer s.now = true ∧
       (s.door 0).decayTimer = none ∧ s.relActive = false) ∧
    (let s := (doorIn .trailing none (some 8000) none 8000).modInput relInput fun r =>
       { r with filtered := .active }
     s.relActive = true) ∧
    (let s := doorIn .trailing none (some 40000) (some 36000) 36000
     (s.door 0).state = .trailing ∧ due (s.door 0).decayTimer s.now = true ∧
       (s.door 0).trailingTimer ≠ none ∧ s.linksSettled) ∧
    (let s := doorIn .trailing none none (some 36000) 36000
     (s.door 0).state = .trailing ∧ due (s.door 0).decayTimer s.now = true ∧
       (s.door 0).trailingTimer = none) ∧
    (let s := doorIn .trailing none (some 8000) (some 36000) 7999
     s.linksSettled ∧ (s.door 0).state ≠ .open ∧ due (s.door 0).trailingTimer s.now = false ∧
       due (s.door 0).decayTimer s.now = false) :=
  ⟨by decide +kernel, by decide +kernel, by decide +kernel, by decide +kernel,
    ⟨by decide +kernel, by decide +kernel, by decide +kernel, settled_of (by decide +kernel)⟩,
    by decide +kernel, settled_of (by decide +kernel), by decide +kernel, by decide +kernel,
    by decide +kernel⟩

/-- The first whole second of an opening, and its 600th, the last that is signalled. -/
theorem witness_door_tick :
    (due (at_ 250 State.reset).ddc.tick 250 = true ∧
      ∀ d, ¬ (((at_ 250 State.reset).door d).state = .armed ∨
        ((at_ 250 State.reset).door d).state = .held ∨
        ((at_ 250 State.reset).door d).state = .trailing)) ∧
      ((doorIn .trailing none (some 8000) (some 36000) 250).door 0).state = .trailing ∧
      due (at_ 249 State.reset).ddc.tick 249 = false ∧
      (at_ 249 State.reset).linksSettled ∧
      (let r := (doorIn .open none none none 1000).door 0
       r.openStart = some 0 ∧ 0 + (r.secondsCounted + 1) * 1000 ≤ 1000 ∧
         (r.secondsCounted + 1) * 1000 ≤ 600000) ∧
      (let s := (doorIn .open none none none 600000).modDoor 0 fun r =>
         { r with secondsCounted := 599 }
       let r := s.door 0
       s.linksSettled ∧ r.openStart = some 0 ∧ 0 + (r.secondsCounted + 1) * 1000 ≤ s.now ∧
         (r.secondsCounted + 1) * 1000 ≤ 600000) ∧
      (let s := doorIn .open none none none 999
       s.linksSettled ∧ ¬ ∃ m, (s.door 0).openStart = some m ∧
         m + ((s.door 0).secondsCounted + 1) * 1000 ≤ s.now) := by
  refine ⟨by decide +kernel, rfl, by decide +kernel, settled_of (by decide +kernel),
    by decide +kernel, ⟨settled_of (by decide +kernel), by decide +kernel⟩,
    settled_of (by decide +kernel), ?_⟩
  rintro ⟨m, hm, h⟩
  have : ((doorIn .open none none none 999).door 0).openStart = some 0 := rfl
  rw [this, Option.some.injEq] at hm
  subst hm
  exact absurd h (by decide +kernel)

/-- The cases of these items: a hold time of 2 s that a glass record of that age has reached, and one of
3 s that it has not; FAILSAFE as CLEAR under a fallback of 49, and under one of 50; a door open for 30 s
and for one ms less. -/
theorem witness_cabin_cases :
    (let r := (glassAt .fresh 2000).value .glass
     r.quality ≠ .missing ∧ due (r.lastValid.map (· + 2 * 1000)) 2000 = true ∧
       due (r.lastValid.map (· + 3 * 1000)) 2000 = false) ∧
    (let s := State.reset.modScreen fun r => { r with acting := some .clear }
     let acting (v : Byte) := (after [.setConfig .service 0 [3, 0, 0, 0, 0, v]] s).sc.acting
     s.sc.state = .failsafe ∧ acting 0x31 = some .demist ∧ acting 0x32 = some .clear) ∧
    (let d := (doorIn .open none none none 30000).door 0
     d.state = .open ∧ due (d.openStart.map (· + 30 * 1000)) 30000 = true ∧
       due (d.openStart.map (· + 30 * 1000)) 29999 = false) := by decide +kernel

/-- The pass of section 5.7 with 60 HS, and the division of 155 over the saloon. -/
theorem witness_division :
    let asks : List ClassAsk := [⟨0, 30, 30⟩, ⟨20, 25, 40⟩, ⟨0, 30, 120⟩, ⟨40, 393, 300⟩]
    (asks.map (·.held)).sum ≤ 60 ∧ (∀ a ∈ asks, a.held ≤ a.demand) ∧ 3 < asks.length ∧
      155 ≤ [108, 100, 40, 95, 90].sum := by decide

theorem witness_divided_pass :
    due (at_ 250 (powered 300 State.reset)).pa.allocTimer 250 = true ∧
      (at_ 250 (powered 300 State.reset)).totalHeld ≤
        (at_ 250 (powered 300 State.reset)).budget := by decide +kernel

/-- When timers are due: the door tick at 250 ms, the timeout of order 0 at 50, the 600th second of an opening
and no later one, and a MISSING record never. -/
theorem test_expiries_due :
    ((at_ 250 State.reset).expiryDue .doorTick ∧ ¬ (at_ 249 State.reset).expiryDue .doorTick) ∧
    ((at_ 50 State.reset).expiryDue (.echoTimeout .front 0) ∧
      ¬ (at_ 49 State.reset).expiryDue (.echoTimeout .front 0) ∧
      ¬ (at_ 50 State.reset).expiryDue (.echoTimeout .front 1)) ∧
    (let s := (doorIn .open none none none 601000).modDoor 0 fun r =>
       { r with secondsCounted := 599 }
     s.expiryDue (.doorOpenSecond 0) ∧
       ¬ (s.modDoor 0 fun r => { r with secondsCounted := 600 }).expiryDue (.doorOpenSecond 0)) ∧
    ((glassAt .stale 60000).expiryDue (.degradeTimerExpiry .glass) ∧
      ¬ (glassAt .missing 60000).expiryDue (.degradeTimerExpiry .glass)) := by
  unfold State.expiryDue
  decide +kernel

end Sys2Proof.Tests
end

section
/-! SUPPORT. What a valid sample frame does: the records of the Sample Table that its values enter, the outside
temperature that follows from them, and the link that heard it. -/

namespace Sys2Proof.Machine

/-! ### Reading a record after an update -/

theorem State.modValue_value (s : State) (v w : ValueId) (f : ValueRec → ValueRec) :
    (s.modValue v f).value w = if v = w then f (s.value w) else s.value w := by
  cases v with
  | air z =>
    cases w with
    | air y =>
      simp [State.modValue, State.value, SampleTable.modify, SampleTable.get, updV_get,
        Fin.ext_iff]
    | outside m => cases m <;> rfl
    | glass => rfl
    | humidity => rfl
  | outside n => cases n <;> rcases w with _ | (_ | _) | _ | _ <;> rfl
  | glass => rcases w with _ | (_ | _) | _ | _ <;> rfl
  | humidity => rcases w with _ | (_ | _) | _ | _ <;> rfl

/-- Reselecting To leaves the records that it is selected from (R15). -/
@[simp] theorem State.reselect_value (s : State) (v : ValueId) : s.reselect.value v = s.value v := by
  rcases v with _ | (_ | _) | _ | _ <;> rfl

/-! ### Entering one checked value (R8 to R10) -/

/-- A record after a checked value: a valid sample, or its rejection alone (R8). -/
def ValueRec.take (now : Nat) (zone : Bool) (r : ValueRec) : Checked → ValueRec
  | .inl v => r.valid now zone v
  | .inr why => { r with rejection := why }

theorem State.enterSample_eq (s : State) (x : ValueId × Checked) :
    s.enterSample x = s.modValue x.1 fun r => r.take s.now (isAirValue x.1) x.2 := by
  obtain ⟨v, c⟩ := x
  cases c <;> rfl

@[simp] theorem State.enterSample_now (s : State) (x : ValueId × Checked) :
    (s.enterSample x).now = s.now :=
  State.now_of_part (by simp)

/-- The window of a zone keeps the last three samples before a new one (R10). -/
theorem pushWindow_eq (w : List Int) (v : Int) :
    pushWindow w v = (if w.length < 4 then w else w.tail) ++ [v] := by
  unfold pushWindow
  by_cases h : w.length < 4
  · rw [if_pos h, if_neg (by omega)]
  · rw [if_neg h, if_pos (by omega), List.drop_one]

/-- A delivered temperature enters when it is in range, and is rejected by the table of R8 otherwise. -/
theorem ValueRec.take_classTemp (now : Nat) (zone : Bool) (r : ValueRec) (lo hi : Int) (x : Half) :
    r.take now zone (classTemp lo hi x) =
      if lo ≤ x.toInt ∧ x.toInt ≤ hi then r.valid now zone x.toInt
      else { r with rejection :=
        if x.toInt = -32768 then .notFitted
        else if x.toInt = 32767 then .sensorFault
        else .outOfRange } := by
  unfold classTemp
  dsimp only
  split
  · rfl
  · split
    · rfl
    · split <;> rfl

/-- A delivered humidity enters, clamped to 100, unless it is 255 (R9). -/
theorem ValueRec.take_classHumidity (now : Nat) (r : ValueRec) (x : Byte) :
    r.take now false (classHumidity x) =
      if x.toNat = 255 then { r with rejection := .sensorFault }
      else r.valid now false (min x.toNat 100 : Nat) := by
  unfold classHumidity
  split
  · rfl
  · have h : ((min x.toNat 100 : Nat) : Int) = min (x.toNat : Int) 100 := by omega
    rw [h]
    rfl

/-! ### Entering the values of a frame -/

/-- A value that a list of checked values does not name keeps its record. -/
theorem State.enterSamples_value_of_not_mem (l : List (ValueId × Checked)) (s : State) {v : ValueId}
    (h : v ∉ l.map Prod.fst) : (l.foldl State.enterSample s).value v = s.value v := by
  induction l generalizing s with
  | nil => rfl
  | cons x l ih =>
    rw [List.map_cons, List.mem_cons, not_or] at h
    obtain ⟨hx, hl⟩ := h
    rw [List.foldl_cons, ih _ hl, State.enterSample_eq, State.modValue_value, if_neg (Ne.symm hx)]

/-- A value that a list of checked values names once takes what the list has for it. -/
theorem State.enterSamples_value_of_mem (l : List (ValueId × Checked)) (s : State) {v : ValueId}
    {c : Checked} (hn : (l.map Prod.fst).Nodup) (h : (v, c) ∈ l) :
    (l.foldl State.enterSample s).value v = (s.value v).take s.now (isAirValue v) c := by
  induction l generalizing s with
  | nil => exact absurd h List.not_mem_nil
  | cons x l ih =>
    obtain ⟨hx, hl⟩ := List.nodup_cons.mp hn
    rw [List.foldl_cons]
    rcases List.mem_cons.mp h with rfl | hm
    · rw [State.enterSamples_value_of_not_mem l _ hx, State.enterSample_eq, State.modValue_value,
        if_pos rfl]
    · have hv : x.1 ≠ v := fun e => hx (e ▸ List.mem_map_of_mem hm)
      rw [ih _ hl hm, State.enterSample_now, State.enterSample_eq, State.modValue_value, if_neg hv]

/-- A frame carries each of its values once. -/
theorem checkedFrame_nodup (n : Node) (b : SampleBody) :
    ((checkedFrame n b).map Prod.fst).Nodup := by
  cases n <;> simp [checkedFrame, nodeZones]

/-- The values that only the rear node carries are not in a front frame (R3, R195). -/
theorem not_carried_front (b : SampleBody) :
    ∀ v ∈ [ValueId.air 3, .air 4, .air 5, .outside .rear],
      v ∉ (checkedFrame .front b).map Prod.fst := by
  simp [checkedFrame, nodeZones]

/-- The values that only the front node carries are not in a rear frame (R3, R195). -/
theorem not_carried_rear (b : SampleBody) :
    ∀ v ∈ [ValueId.air 0, .air 1, .air 2, .outside .front, .glass, .humidity],
      v ∉ (checkedFrame .rear b).map Prod.fst := by
  simp [checkedFrame, nodeZones]

/-! ### The frame entered whole (R8, R15, R16) -/

@[simp] theorem State.enterFrame_value (s : State) (n : Node) (b : SampleBody) (v : ValueId) :
    (s.enterFrame n b).value v = ((checkedFrame n b).foldl State.enterSample s).value v := by
  rw [← State.reselect_value]
  rcases v with _ | (_ | _) | _ | _ <;> rfl

@[simp] theorem State.enterSamples_firstOutside (l : List (ValueId × Checked)) (s : State) :
    (l.foldl State.enterSample s).st.firstOutside = s.st.firstOutside := by
  induction l generalizing s with
  | nil => rfl
  | cons x l ih =>
    rw [List.foldl_cons, ih, State.enterSample_eq]
    rcases x with ⟨_ | (_ | _) | _ | _, c⟩ <;> rfl

theorem State.enterFrame_firstOutside (s : State) (n : Node) (b : SampleBody) :
    (s.enterFrame n b).st.firstOutside = (s.st.firstOutside || outsideValid b) := by
  rw [← State.enterSamples_firstOutside (checkedFrame n b) s]
  rfl

/-- To follows the front sensor, else the rear, else the fallback (R15). -/
theorem State.selectOutside_eq (s : State) :
    s.selectOutside =
      ((s.value (.outside .front)).usable.map (·, ToSource.front) <|>
        (s.value (.outside .rear)).usable.map (·, ToSource.rear)).getD
          (s.cs.work.fallbackOutside, .fallback) := by
  unfold State.selectOutside State.value SampleTable.get
  cases s.st.outsideFront.usable <;> cases s.st.outsideRear.usable <;> rfl

/-- To and its source are those selected from the records that they stand with (R15). -/
theorem State.enterFrame_outside (s : State) (n : Node) (b : SampleBody) :
    ((s.enterFrame n b).st.outsideTemp, (s.enterFrame n b).st.outsideSource) =
      (s.enterFrame n b).selectOutside :=
  rfl

/-- The first outside value is one in range (R8, R16). -/
theorem outsideValid_eq (b : SampleBody) :
    outsideValid b = decide (-500 ≤ b.outside.toInt ∧ b.outside.toInt ≤ 600) := by
  unfold outsideValid classTemp
  dsimp only
  split
  case isTrue h => simp [h]
  case isFalse h =>
    rw [decide_eq_false h]
    split
    · rfl
    · split <;> rfl

/-! ### The link at a valid frame (R137, R144, R147) -/

/-- A link context at a valid-frame run of 3 (R144, R147). -/
def LinkCtx.atRun (k : LinkCtx) : LinkCtx :=
  match k.state with
  | .down => { k with state := .up, echoMiss := 0 }
  | .lost => { k with heldDraw := 0, heldTimer := none, state := .up, echoMiss := 0 }
  | .up => k

/-- A link context after a valid frame at `now` under a silence limit (R137, R144). -/
def LinkCtx.heardFrame (now limit : Nat) (k : LinkCtx) : LinkCtx :=
  let k := { k with lastValid := some now, silenceTimer := some (now + limit),
                    validRun := min 3 (k.validRun + 1) }
  if 3 ≤ k.validRun then k.atRun else k

theorem State.link_of_part {s t : State} (h : t.part .links = s.part .links) (m : Node) :
    t.link m = s.link m := by
  rw [State.link, State.nlc_of_part h, State.link]

/-- The pass that a DOWN link's return brings leaves the link contexts. -/
theorem State.firstUp_link (s : State) (n m : Node) :
    (s.firstUp n).link m =
      (s.modLink n fun k => { k with state := .up, echoMiss := 0 }).link m :=
  State.link_of_part (by simp [State.firstUp]) m

/-- The elements, the pass and the notice of a LOST link's return leave the link contexts. -/
theorem State.relink_link (s : State) (n m : Node) :
    (s.relink n).link m =
      (s.modLink n fun k =>
        { k with heldDraw := 0, heldTimer := none, state := .up, echoMiss := 0 }).link m :=
  State.link_of_part (by simp [State.relink]) m

theorem State.runReached_link_self (s : State) (n : Node) :
    (s.runReached n).link n = (s.link n).atRun := by
  unfold State.runReached LinkCtx.atRun
  cases (s.link n).state with
  | down => rw [State.firstUp_link, State.modLink_link_self]
  | up => rfl
  | lost => rw [State.relink_link, State.modLink_link_self]

theorem State.runReached_link_ne (s : State) {n m : Node} (h : m ≠ n) :
    (s.runReached n).link m = s.link m := by
  unfold State.runReached
  cases (s.link n).state with
  | down => rw [State.firstUp_link, State.modLink_link_ne _ _ h]
  | up => rfl
  | lost => rw [State.relink_link, State.modLink_link_ne _ _ h]

theorem State.validFrame_link_self (s : State) (n : Node) :
    (s.validFrame n).link n = (s.link n).heardFrame s.now s.cfg.nodeSilence := by
  unfold State.validFrame LinkCtx.heardFrame
  dsimp only
  rw [State.modLink_link_self]
  split
  case isTrue h => rw [State.runReached_link_self, State.modLink_link_self]; exact (if_pos h).symm
  case isFalse h => rw [State.modLink_link_self]; exact (if_neg h).symm

theorem State.validFrame_link_ne (s : State) {n m : Node} (h : m ≠ n) :
    (s.validFrame n).link m = s.link m := by
  unfold State.validFrame
  dsimp only
  split
  · rw [State.runReached_link_ne _ h, State.modLink_link_ne _ _ h]
  · rw [State.modLink_link_ne _ _ h]

section
variable (k : LinkCtx)

@[simp] theorem LinkCtx.atRun_lastValid : k.atRun.lastValid = k.lastValid := by
  unfold LinkCtx.atRun; split <;> rfl
@[simp] theorem LinkCtx.atRun_silenceTimer : k.atRun.silenceTimer = k.silenceTimer := by
  unfold LinkCtx.atRun; split <;> rfl
@[simp] theorem LinkCtx.atRun_validRun : k.atRun.validRun = k.validRun := by
  unfold LinkCtx.atRun; split <;> rfl
@[simp] theorem LinkCtx.atRun_state : k.atRun.state = .up := by
  unfold LinkCtx.atRun; split <;> simp [*]
@[simp] theorem LinkCtx.atRun_echoMiss :
    k.atRun.echoMiss = if k.state = .up then k.echoMiss else 0 := by
  unfold LinkCtx.atRun; split <;> simp [*]

end

/-- What a valid frame leaves in its link's context (R137, R144). -/
theorem LinkCtx.heardFrame_fields (now limit : Nat) (k : LinkCtx) :
    (k.heardFrame now limit).lastValid = some now ∧
      (k.heardFrame now limit).silenceTimer = some (now + limit) ∧
      (k.heardFrame now limit).validRun = min 3 (k.validRun + 1) ∧
      (k.heardFrame now limit).state = (if 3 ≤ k.validRun + 1 then .up else k.state) ∧
      (k.heardFrame now limit).echoMiss =
        (if 3 ≤ k.validRun + 1 ∧ k.state ≠ .up then 0 else k.echoMiss) := by
  have hm : 3 ≤ min 3 (k.validRun + 1) ↔ 3 ≤ k.validRun + 1 := by omega
  unfold LinkCtx.heardFrame
  simp only [hm]
  by_cases h : 3 ≤ k.validRun + 1
  · by_cases hu : k.state = .up <;> simp [h, hu]
  · simp [h]

/-- An order that comes due or is sent leaves what a valid frame writes. -/
theorem LinkCtx.sentFrom_fields {k before : LinkCtx} (h : k.sentFrom before) :
    k.lastValid = before.lastValid ∧ k.silenceTimer = before.silenceTimer ∧
      k.validRun = before.validRun ∧ k.state = before.state ∧ k.echoMiss = before.echoMiss := by
  obtain ⟨hk, -⟩ := h
  rw [hk]
  exact ⟨rfl, rfl, rfl, rfl, rfl⟩

/-! ### The frame taken (R8, R18, R137) -/

/-- The readers of the Sample Table leave it as the frame left it. -/
@[simp] theorem State.takeSamples_st (s : State) (n : Node) (b : SampleBody) :
    (s.takeSamples n b).st = (s.enterFrame n b).st := by
  apply State.st_of_part
  unfold State.takeSamples
  dsimp only
  (repeat' split) <;> simp

theorem State.takeSampleFrame_st (s : State) (n : Node) (b : SampleBody) :
    (s.takeSampleFrame n b).st = ((s.validFrame n).enterFrame n b).st :=
  State.takeSamples_st _ n b

theorem State.validFrame_value (s : State) (n : Node) (v : ValueId) :
    (s.validFrame n).value v = s.value v := by
  rw [State.value, State.st_of_part (State.validFrame_part s n .samples (by simp)), State.value]

theorem State.takeSampleFrame_value (s : State) (n : Node) (b : SampleBody) (v : ValueId) :
    (s.takeSampleFrame n b).value v =
      ((checkedFrame n b).foldl State.enterSample (s.validFrame n)).value v := by
  rw [State.value, State.takeSampleFrame_st, ← State.value, State.enterFrame_value]

/-- A value that the frame does not carry keeps its record. -/
theorem State.takeSampleFrame_other (s : State) (n : Node) (b : SampleBody) {v : ValueId}
    (h : v ∉ (checkedFrame n b).map Prod.fst) : (s.takeSampleFrame n b).value v = s.value v := by
  rw [State.takeSampleFrame_value, State.enterSamples_value_of_not_mem _ _ h,
    State.validFrame_value]

/-- A value that the frame carries is entered as it was checked. -/
theorem State.takeSampleFrame_carried (s : State) (n : Node) (b : SampleBody) {v : ValueId}
    {c : Checked} (h : (v, c) ∈ checkedFrame n b) :
    (s.takeSampleFrame n b).value v = (s.value v).take s.now (isAirValue v) c := by
  rw [State.takeSampleFrame_value, State.enterSamples_value_of_mem _ _ (checkedFrame_nodup n b) h,
    State.validFrame_value, State.now_of_part (State.validFrame_part s n .time (by simp))]

/-- To and its source follow the records after the frame (R15). -/
theorem State.takeSampleFrame_outside (s : State) (n : Node) (b : SampleBody) :
    ((s.takeSampleFrame n b).st.outsideTemp, (s.takeSampleFrame n b).st.outsideSource) =
      (s.takeSampleFrame n b).selectOutside := by
  have hc : (s.takeSampleFrame n b).cs = ((s.validFrame n).enterFrame n b).cs :=
    State.cs_of_part (by simp [State.takeSampleFrame])
  unfold State.selectOutside State.cfg
  rw [State.takeSampleFrame_st, hc]
  exact State.enterFrame_outside _ n b

theorem State.takeSampleFrame_firstOutside (s : State) (n : Node) (b : SampleBody) :
    (s.takeSampleFrame n b).st.firstOutside = (s.st.firstOutside || outsideValid b) := by
  rw [State.takeSampleFrame_st, State.enterFrame_firstOutside,
    State.st_of_part (State.validFrame_part s n .samples (by simp))]

/-- The readers of the Sample Table leave the links. -/
theorem State.takeSampleFrame_link (s : State) (n m : Node) (b : SampleBody) :
    (s.takeSampleFrame n b).link m = (s.validFrame n).link m :=
  State.link_of_part (State.takeSamples_part _ n b .links (by simp)) m

/-! ### The command (R8, R9) -/

/-- A two-byte field is its bytes, most significant first (R191). -/
theorem half_eq_append (b : List Byte) (i : Nat) :
    BitVec.ofNat 16 (u16 b i) = b.getD i 0 ++ b.getD (i + 1) 0 := by
  apply BitVec.eq_of_toNat_eq
  have hi := (b.getD i 0).isLt
  have hj := (b.getD (i + 1) 0).isLt
  rw [BitVec.toNat_append, ← Nat.shiftLeft_add_eq_or_of_lt hj, Nat.shiftLeft_eq, BitVec.toNat_ofNat]
  unfold u16 u8 byteAt
  omega

/-- A sample frame of 11 body bytes is valid; its event ends with the settling of the orders (R137). -/
theorem exec_sampleFrame (n : Node) {body : List Byte} (s : State) (h : body.length = 11) :
    exec (.sampleFrame n body) s =
      .next ((s.takeSampleFrame n (readSample body)).settle s) := by
  change finish s (s.nodeArrival n (judgeBody sampleKind 0 body)) = _
  rw [judgeBody_sample, if_pos h]
  rfl

/-- A temperature that the frame carries at field `k` is entered in range, as the mean of its window for a zone,
and rejected out of range (R8, R10). -/
theorem State.takeSampleFrame_field (s : State) (n : Node) (body : List Byte) (k : Nat) {v : ValueId}
    {lo hi : Int}
    (h : (v, classTemp lo hi (BitVec.ofNat 16 (u16 body (2 * k)))) ∈
      checkedFrame n (readSample body)) :
    let x := (body.getD (2 * k) 0 ++ body.getD (2 * k + 1) 0).toInt
    let r := s.value v
    let w := (if r.window.length < 4 then r.window else r.window.tail) ++ [x]
    (s.takeSampleFrame n (readSample body)).value v =
      if lo ≤ x ∧ x ≤ hi then
        { value := some (if isAirValue v then w.sum.tdiv w.length else x)
          window := if isAirValue v then w else []
          lastValid := some s.now, quality := .fresh, rejection := .none }
      else
        { r with rejection :=
            if x = -32768 then .notFitted
            else if x = 32767 then .sensorFault
            else .outOfRange } := by
  intro x r w
  rw [State.takeSampleFrame_carried s n _ h, ValueRec.take_classTemp, half_eq_append]
  unfold ValueRec.valid windowMean
  rw [pushWindow_eq]
  cases isAirValue v <;> rfl

/-- The humidity of a front frame is entered clamped to 100, and 255 is a fault (R9). -/
theorem State.takeSampleFrame_humidity (s : State) (b : SampleBody) :
    (s.takeSampleFrame .front b).value .humidity =
      if b.rh.toNat = 255 then { s.value .humidity with rejection := .sensorFault }
      else
        { value := some (min b.rh.toNat 100 : Nat), window := [],
          lastValid := some s.now, quality := .fresh, rejection := .none } := by
  rw [State.takeSampleFrame_carried s .front b (c := classHumidity b.rh)
      (by simp [checkedFrame, nodeZones]), isAirValue, ValueRec.take_classHumidity]
  rfl

/-- What the event of a sample frame leaves in the context of its link (R137, R144). -/
theorem State.sampleFrame_link (s before : State) (n : Node) (b : SampleBody) :
    (((s.takeSampleFrame n b).settle before).link n).sentFrom
      ((s.link n).heardFrame s.now s.cfg.nodeSilence) := by
  have h := (s.takeSampleFrame n b).settle_sentFrom before n
  rwa [State.takeSampleFrame_link, State.validFrame_link_self] at h

/-- The event of a sample frame leaves the other link but for an order that came due. -/
theorem State.sampleFrame_link_ne (s before : State) {n m : Node} (b : SampleBody) (hm : m ≠ n) :
    (((s.takeSampleFrame n b).settle before).link m).sentFrom (s.link m) := by
  have h := (s.takeSampleFrame n b).settle_sentFrom before m
  rwa [State.takeSampleFrame_link, State.validFrame_link_ne s hm] at h

/-- Settles O48: each clause from the lemma about the part of the event that it speaks of, the records, To, the
first-outside marker, the links and the frame. -/
theorem sampleFrameEntersValues : Obligations.SampleFrameEntersValues := by
  intro n body s hlen field rh
  refine ⟨_, exec_sampleFrame n s hlen, ?values, ?outside, ?first, ?_⟩
  case values =>
    have entered {v : ValueId} {lo hi : Int} (k : Nat)
        (h : (v, classTemp lo hi (BitVec.ofNat 16 (u16 body (2 * k)))) ∈
          checkedFrame n (readSample body)) :=
      (State.settle_value _ s v).trans (s.takeSampleFrame_field n body k h)
    have other {v : ValueId} (h : v ∉ (checkedFrame n (readSample body)).map Prod.fst) :=
      (State.settle_value _ s v).trans (s.takeSampleFrame_other n (readSample body) h)
    cases n with
    | front =>
      refine ⟨entered 0 ?_, entered 1 ?_, entered 2 ?_, entered 3 ?_, entered 4 ?_,
        (State.settle_value _ s _).trans (s.takeSampleFrame_humidity _),
        fun v hv => other (not_carried_front _ v hv)⟩
      all_goals simp [checkedFrame, nodeZones, readSample]
    | rear =>
      refine ⟨entered 0 ?_, entered 1 ?_, entered 2 ?_, entered 3 ?_,
        fun v hv => other (not_carried_rear _ v hv)⟩
      all_goals simp [checkedFrame, nodeZones, readSample]
  case outside =>
    rw [State.settle_st, State.takeSampleFrame_outside, State.settle_value, State.settle_value,
      State.selectOutside_eq, State.cs_of_part (State.takeSampleFrame_part s n _ .store (by simp))]
    generalize ((s.takeSampleFrame n (readSample body)).value (.outside .front)).usable = front
    generalize ((s.takeSampleFrame n (readSample body)).value (.outside .rear)).usable = rear
    cases front <;> cases rear <;> rfl
  case first =>
    rw [State.settle_st, State.takeSampleFrame_firstOutside, outsideValid_eq]
    exact congrArg (fun x : Half => s.st.firstOutside || decide (-500 ≤ x.toInt ∧ x.toInt ≤ 600))
      (half_eq_append body 6)
  obtain ⟨hl, hs, hr, hu, he⟩ := LinkCtx.sentFrom_fields (s.sampleFrame_link s n (readSample body))
  obtain ⟨kl, ks, kr, ku, ke⟩ := (s.link n).heardFrame_fields s.now s.cfg.nodeSilence
  refine ⟨hl.trans kl, hs.trans ks, hr.trans kr, hu.trans ku, he.trans ke,
    fun m hm => s.sampleFrame_link_ne s _ hm, ?_⟩
  exact Keeps.settle s (fun p hp => State.takeSampleFrame_part s n _ p (by simpa using hp)) (by simp)

end Sys2Proof.Machine
end

section
/-! SUPPORT. What READ-NOTICES does (R177): the flags of its port are cleared and its line recomputed, and the
reply holds the set as it stood. -/

namespace Sys2Proof.Machine

/-! ### A port whose notices have been read -/

/-- What the reading does to its port: the status set is cleared and the line recomputed. -/
def PortCtx.noticesRead (c : PortCtx) : PortCtx :=
  PortCtx.attend { c with notices := 0 }

@[simp] theorem PortCtx.noticesRead_quiet (c : PortCtx) : c.noticesRead.quiet = c.quiet := rfl

@[simp] theorem PortCtx.noticesRead_notices (c : PortCtx) : c.noticesRead.notices = 0 := rfl

/-- An empty status set asserts no line (R176). -/
@[simp] theorem PortCtx.noticesRead_attention (c : PortCtx) : c.noticesRead.attention = false := by
  simp [PortCtx.noticesRead, PortCtx.attend, PortCtx.lineLevel]

@[simp] theorem PortCtx.pushReply_notices (kind tag : Byte) (body : List Byte) (c : PortCtx) :
    (c.pushReply kind tag body).notices = c.notices := rfl

@[simp] theorem PortCtx.pushReply_attention (kind tag : Byte) (body : List Byte) (c : PortCtx) :
    (c.pushReply kind tag body).attention = c.attention := rfl

/-! ### The request's state and reply -/

/-- The owner's answer: the port's notices are read, and the reply is DONE with the snapshot (R177). -/
theorem State.readNotices_eq (s : State) (p : Port) :
    s.readNotices p = (s.modPort p PortCtx.noticesRead, 0x00 :: w24 (s.port p).notices.toNat) := rfl

/-- READ-NOTICES without a body passes the checks of R171 on every port (R172, R193). -/
theorem State.answerRequest_readNotices (s : State) (p : Port) :
    s.answerRequest p 0x02 [] = s.readNotices p :=
  s.answerRequest_owner (by decide) (by cases p <;> rfl) rfl

/-- A change of a port's notices and attention line leaves the rest of the ports. -/
theorem State.modPort_ports (s : State) (p : Port) (f : PortCtx → PortCtx)
    (h : ∀ c, (f c).quiet = c.quiet) : (s.modPort p f).part .ports = s.part .ports := by
  cases p <;> simp [State.part, State.modPort, PortUnit.modify, h]

/-- An event that touches the ports and their notices alone, on settled links, settles to itself. -/
theorem State.settle_of_keeps {s t : State} (hs : s.linksSettled) (h : Keeps [.ports, .notices] s t) :
    t.settle s = t :=
  State.settle_quiet hs fun pt hpt => h pt (by
    simp only [List.mem_cons, List.not_mem_nil, or_false] at hpt ⊢
    rcases hpt with rfl | rfl | rfl | rfl | rfl | rfl <;> simp)

/-- The state after READ-NOTICES: a good frame heard, the notices read, the reply with the snapshot placed. -/
def State.afterReadNotices (s : State) (p : Port) (tag : Byte) : State :=
  ((s.heard p).modPort p PortCtx.noticesRead).modPort p
    (PortCtx.pushReply 0x02 tag (0x00 :: w24 (s.port p).notices.toNat))

theorem State.afterReadNotices_keeps (s : State) (p : Port) (tag : Byte) :
    Keeps [.ports, .notices] s (s.afterReadNotices p tag) := by
  intro pt hp
  have hp' : pt ∉ ([.notices, .ports] : List Part) := by simpa [and_comm] using hp
  simp only [State.afterReadNotices, State.heard, State.modPort_part _ _ _ _ hp']

theorem State.afterReadNotices_port_self (s : State) (p : Port) (tag : Byte) :
    (s.afterReadNotices p tag).port p =
      ((s.port p).goodFrame s.now).noticesRead.pushReply 0x02 tag
        (0x00 :: w24 (s.port p).notices.toNat) := by
  simp [State.afterReadNotices]

theorem State.afterReadNotices_port_ne (s : State) {p q : Port} (tag : Byte) (h : q ≠ p) :
    (s.afterReadNotices p tag).port q = s.port q := by
  simp only [State.afterReadNotices, State.heard, State.modPort_port_ne _ _ h]

/-- The command READ-NOTICES, with room for its reply and no order held back. -/
theorem exec_readNotices {s : State} {p : Port} (tag : Byte) (hr : s.hasRoom p)
    (hs : s.linksSettled) :
    exec (.readNotices p tag []) s = .next (s.afterReadNotices p tag) := by
  have snapshot : ((s.heard p).port p).notices = (s.port p).notices := by
    simp [PortCtx.goodFrame]
  rw [exec_request_room rfl hr, State.answerRequest_readNotices, State.readNotices_eq, snapshot]
  exact congrArg _ (State.settle_of_keeps hs (s.afterReadNotices_keeps p tag))

/-- Settles O21: the reply from the rule for an owner that leaves the ports but for their notices, the rest from
the state that the command leaves. -/
theorem readNoticesReturnsAndClears : Obligations.ReadNoticesReturnsAndClears := by
  intro p tag s hr hs
  obtain ⟨answered, kept⟩ := State.answered_of (s := s) 0x02 tag (0x00 :: w24 (s.port p).notices.toNat)
    ((s.heard p).modPort_ports p _ PortCtx.noticesRead_quiet)
  refine ⟨_, exec_readNotices tag hr hs, answered, kept, ?cleared, ?deasserted,
    fun q hq => s.afterReadNotices_port_ne tag hq, s.afterReadNotices_keeps p tag⟩
  case cleared => simp [State.afterReadNotices_port_self]
  case deasserted => simp [State.afterReadNotices_port_self]

end Sys2Proof.Machine
end
